-- ==== Sys2Proof/Word.lean ====
section
/-! DEFINITION. The word types of the machine (spec 00_scope.md R7, R9): every value is a 32-bit word unless its width
is written; memory is addressed by bytes. -/

namespace Sys2Proof

/-- A 32-bit word: register, operand, immediate, result, address and `pc` (R7, R9, R20, R42). -/
abbrev Word := BitVec 32

/-- One byte of memory (R40). -/
abbrev Byte := BitVec 8

/-- A register identifier, 0 to 31 (R7, R26). -/
abbrev RegId := BitVec 5

/-- A CSR index, 0 to 4095 (R7, R72). -/
abbrev CsrIndex := BitVec 12

/-- The 7-bit opcode field (R61). -/
abbrev Opcode := BitVec 7

/-- `funct3` (R63). -/
abbrev Funct3 := BitVec 3

end Sys2Proof
end

