-- ==== Sys2Proof/Syntax.lean ====
section
/-! DEFINITION. The instructions: one constructor for each row of spec/opcode_table.json (30_encoding.md R86), in its
order. An immediate is the 32-bit word the decoder rebuilds (R64 to R68); an operand the row's handler does not name is not
a field (R80, log entry 18). -/

namespace Sys2Proof

/-- The instruction set: the 60 rows of the opcode table. -/
inductive Instr where
  /-- ADDI (R142), kind ALU. -/
  | addi (rd : RegId) (rs1 : RegId) (imm : Word)
  /-- SLTI (R143), kind ALU. -/
  | slti (rd : RegId) (rs1 : RegId) (imm : Word)
  /-- SLTIU (R144), kind ALU. -/
  | sltiu (rd : RegId) (rs1 : RegId) (imm : Word)
  /-- XORI (R145), kind ALU. -/
  | xori (rd : RegId) (rs1 : RegId) (imm : Word)
  /-- ORI (R146), kind ALU. -/
  | ori (rd : RegId) (rs1 : RegId) (imm : Word)
  /-- ANDI (R147), kind ALU. -/
  | andi (rd : RegId) (rs1 : RegId) (imm : Word)
  /-- SLLI (R148), kind ALU. -/
  | slli (rd : RegId) (rs1 : RegId) (imm : Word)
  /-- SRAI (R150), kind ALU. -/
  | srai (rd : RegId) (rs1 : RegId) (imm : Word)
  /-- SRLI (R149), kind ALU. -/
  | srli (rd : RegId) (rs1 : RegId) (imm : Word)
  /-- SUB (R153), kind ALU. -/
  | sub (rd : RegId) (rs1 : RegId) (rs2 : RegId)
  /-- ADD (R152), kind ALU. -/
  | add (rd : RegId) (rs1 : RegId) (rs2 : RegId)
  /-- SLL (R154), kind ALU. -/
  | sll (rd : RegId) (rs1 : RegId) (rs2 : RegId)
  /-- SLT (R155), kind ALU. -/
  | slt (rd : RegId) (rs1 : RegId) (rs2 : RegId)
  /-- SLTU (R156), kind ALU. -/
  | sltu (rd : RegId) (rs1 : RegId) (rs2 : RegId)
  /-- XOR (R157), kind ALU. -/
  | xor (rd : RegId) (rs1 : RegId) (rs2 : RegId)
  /-- SRA (R159), kind ALU. -/
  | sra (rd : RegId) (rs1 : RegId) (rs2 : RegId)
  /-- SRL (R158), kind ALU. -/
  | srl (rd : RegId) (rs1 : RegId) (rs2 : RegId)
  /-- OR (R160), kind ALU. -/
  | or (rd : RegId) (rs1 : RegId) (rs2 : RegId)
  /-- AND (R161), kind ALU. -/
  | and (rd : RegId) (rs1 : RegId) (rs2 : RegId)
  /-- LUI (R162), kind ALU. -/
  | lui (rd : RegId) (imm : Word)
  /-- AUIPC (R163), kind Auipc. -/
  | auipc (rd : RegId) (imm : Word)
  /-- JAL (R182), kind Jump. -/
  | jal (rd : RegId) (imm : Word)
  /-- JALR (R183), kind JumpRegister. -/
  | jalr (rd : RegId) (rs1 : RegId) (imm : Word)
  /-- BEQ (R185), kind Branch. -/
  | beq (rs1 : RegId) (rs2 : RegId) (imm : Word)
  /-- BNE (R186), kind Branch. -/
  | bne (rs1 : RegId) (rs2 : RegId) (imm : Word)
  /-- BLT (R187), kind Branch. -/
  | blt (rs1 : RegId) (rs2 : RegId) (imm : Word)
  /-- BGE (R188), kind Branch. -/
  | bge (rs1 : RegId) (rs2 : RegId) (imm : Word)
  /-- BLTU (R189), kind Branch. -/
  | bltu (rs1 : RegId) (rs2 : RegId) (imm : Word)
  /-- BGEU (R190), kind Branch. -/
  | bgeu (rs1 : RegId) (rs2 : RegId) (imm : Word)
  /-- BRANCH-f3-01x (R191), kind Branch. -/
  | branchF301x (rs1 : RegId) (rs2 : RegId) (imm : Word)
  /-- LB (R212), kind Unsupported. -/
  | lb (rd : RegId) (rs1 : RegId) (imm : Word)
  /-- LH (R212), kind Unsupported. -/
  | lh (rd : RegId) (rs1 : RegId) (imm : Word)
  /-- LW (R211), kind Load. -/
  | lw (rd : RegId) (rs1 : RegId) (imm : Word)
  /-- LOAD-f3-011 (R212), kind Unsupported. -/
  | loadF3011 (rd : RegId) (rs1 : RegId) (imm : Word)
  /-- LBU (R212), kind Unsupported. -/
  | lbu (rd : RegId) (rs1 : RegId) (imm : Word)
  /-- LHU (R212), kind Unsupported. -/
  | lhu (rd : RegId) (rs1 : RegId) (imm : Word)
  /-- LOAD-f3-110 (R212), kind Unsupported. -/
  | loadF3110 (rd : RegId) (rs1 : RegId) (imm : Word)
  /-- LOAD-f3-111 (R212), kind Unsupported. -/
  | loadF3111 (rd : RegId) (rs1 : RegId) (imm : Word)
  /-- SB (R215), kind Unsupported. -/
  | sb (rs1 : RegId) (rs2 : RegId) (imm : Word)
  /-- SH (R215), kind Unsupported. -/
  | sh (rs1 : RegId) (rs2 : RegId) (imm : Word)
  /-- SW (R214), kind Store. -/
  | sw (rs1 : RegId) (rs2 : RegId) (imm : Word)
  /-- STORE-f3-011 (R215), kind Unsupported. -/
  | storeF3011 (rs1 : RegId) (rs2 : RegId) (imm : Word)
  /-- STORE-f3-1xx (R215), kind Unsupported. -/
  | storeF31xx (rs1 : RegId) (rs2 : RegId) (imm : Word)
  /-- CSRRW-rd0 (R231), kind CsrWrite. -/
  | csrrwRd0 (rs1 : RegId) (csr : CsrIndex)
  /-- CSRRS-rs10 (R232), kind CsrRead. -/
  | csrrsRs10 (rd : RegId) (csr : CsrIndex)
  /-- ECALL (R233), kind System. -/
  | ecall
  /-- EBREAK (R233), kind System. -/
  | ebreak
  /-- MRET (R233), kind System. -/
  | mret
  /-- SRET (R233), kind System. -/
  | sret
  /-- WFI (R233), kind System. -/
  | wfi
  /-- CSRRW (R233), kind System. -/
  | csrrw (rd : RegId) (rs1 : RegId) (csr : CsrIndex)
  /-- CSRRS (R233), kind System. -/
  | csrrs (rd : RegId) (rs1 : RegId) (csr : CsrIndex)
  /-- CSRRC (R233), kind System. -/
  | csrrc (rd : RegId) (rs1 : RegId) (csr : CsrIndex)
  /-- CSRRWI (R233), kind System. -/
  | csrrwi (rd : RegId) (rs1 : RegId) (csr : CsrIndex)
  /-- CSRRSI (R233), kind System. -/
  | csrrsi (rd : RegId) (rs1 : RegId) (csr : CsrIndex)
  /-- CSRRCI (R233), kind System. -/
  | csrrci (rd : RegId) (rs1 : RegId) (csr : CsrIndex)
  /-- SYSTEM-other (R233), kind System. -/
  | systemOther (rd : RegId) (rs1 : RegId) (csr : CsrIndex)
  /-- MISC-MEM (R234), kind Unsupported. -/
  | miscMem
  /-- AMO (R235), kind Unsupported. -/
  | amo
  /-- UNRECOGNIZED (R236), kind Unsupported. -/
  | unrecognized
deriving DecidableEq, Repr

end Sys2Proof
end

