-- ==== Sys2Proof/WellFormed.lean ====
section
/-! DEFINITION. Which terms of `Instr` stand for an instruction word: the ranges of the immediates (30_encoding.md R64 to
R68, R71) and the two operands a row excludes (44_system.md R230, opcode_table.json order 44 before 51 and 45 before 52). -/

namespace Sys2Proof

/-- `imm` is the sign extension of its own low `n` bits (R64 to R67, R70). -/
def fitsSigned (n : Nat) (imm : Word) : Bool := decide ((imm.extractLsb' 0 n).signExtend 32 = imm)

/-- Bit 0 of a B or J immediate is always 0 (R66, R67). -/
def isEven (imm : Word) : Bool := !imm.getLsbD 0

/-- The low 12 bits of a U immediate are 0 (R68). -/
def isUpper (imm : Word) : Bool := decide (imm.extractLsb' 0 12 = 0#12)

/-- A shift amount masked to 5 bits: 0 to 31 (R71). -/
def isShamt (imm : Word) : Bool := decide (imm.toNat < 32)

/-- The terms that an instruction word encodes. -/
def Instr.wf : Instr → Bool
  | .addi _ _ imm => fitsSigned 12 imm
  | .slti _ _ imm => fitsSigned 12 imm
  | .sltiu _ _ imm => fitsSigned 12 imm
  | .xori _ _ imm => fitsSigned 12 imm
  | .ori _ _ imm => fitsSigned 12 imm
  | .andi _ _ imm => fitsSigned 12 imm
  | .slli _ _ imm => fitsSigned 12 imm
  | .srai _ _ imm => isShamt imm
  | .srli _ _ imm => isShamt imm
  | .sub _ _ _ => true
  | .add _ _ _ => true
  | .sll _ _ _ => true
  | .slt _ _ _ => true
  | .sltu _ _ _ => true
  | .xor _ _ _ => true
  | .sra _ _ _ => true
  | .srl _ _ _ => true
  | .or _ _ _ => true
  | .and _ _ _ => true
  | .lui _ imm => isUpper imm
  | .auipc _ imm => isUpper imm
  | .jal _ imm => fitsSigned 21 imm && isEven imm
  | .jalr _ _ imm => fitsSigned 12 imm
  | .beq _ _ imm => fitsSigned 13 imm && isEven imm
  | .bne _ _ imm => fitsSigned 13 imm && isEven imm
  | .blt _ _ imm => fitsSigned 13 imm && isEven imm
  | .bge _ _ imm => fitsSigned 13 imm && isEven imm
  | .bltu _ _ imm => fitsSigned 13 imm && isEven imm
  | .bgeu _ _ imm => fitsSigned 13 imm && isEven imm
  | .branchF301x _ _ imm => fitsSigned 13 imm && isEven imm
  | .lb _ _ imm => fitsSigned 12 imm
  | .lh _ _ imm => fitsSigned 12 imm
  | .lw _ _ imm => fitsSigned 12 imm
  | .loadF3011 _ _ imm => fitsSigned 12 imm
  | .lbu _ _ imm => fitsSigned 12 imm
  | .lhu _ _ imm => fitsSigned 12 imm
  | .loadF3110 _ _ imm => fitsSigned 12 imm
  | .loadF3111 _ _ imm => fitsSigned 12 imm
  | .sb _ _ imm => fitsSigned 12 imm
  | .sh _ _ imm => fitsSigned 12 imm
  | .sw _ _ imm => fitsSigned 12 imm
  | .storeF3011 _ _ imm => fitsSigned 12 imm
  | .storeF31xx _ _ imm => fitsSigned 12 imm
  | .csrrwRd0 _ _ => true
  | .csrrsRs10 _ _ => true
  | .ecall => true
  | .ebreak => true
  | .mret => true
  | .sret => true
  | .wfi => true
  | .csrrw rd _ _ => decide (rd ≠ 0)
  | .csrrs _ rs1 _ => decide (rs1 ≠ 0)
  | .csrrc _ _ _ => true
  | .csrrwi _ _ _ => true
  | .csrrsi _ _ _ => true
  | .csrrci _ _ _ => true
  | .systemOther _ _ _ => true
  | .miscMem => true
  | .amo => true
  | .unrecognized => true

end Sys2Proof
end

