-- ==== Sys2Proof/Decode.lean ====
section
/-! DEFINITION. The instruction decoder (30_encoding.md): field extraction, immediates, opcode map and function codes; the
encoder written from the same tables; the opcode table itself (R86); and the decoder over bytes. Decoding is total on
words (R74, R81); over bytes it rejects, by name, only an input shorter than one instruction. -/

namespace Sys2Proof

/-! ## Fields (R61, R63) -/

/-- `opcode = inst[6:0]` (R61). -/
def opcodeOf (w : Word) : Opcode := w.extractLsb' 0 7

/-- `rd = inst[11:7]` (R63). -/
def rdOf (w : Word) : RegId := w.extractLsb' 7 5

/-- `funct3 = inst[14:12]` (R63). -/
def funct3Of (w : Word) : Funct3 := w.extractLsb' 12 3

/-- `rs1 = inst[19:15]` (R63). -/
def rs1Of (w : Word) : RegId := w.extractLsb' 15 5

/-- `rs2 = inst[24:20]` (R63). -/
def rs2Of (w : Word) : RegId := w.extractLsb' 20 5

/-- `funct7 = inst[31:25]` (R63). -/
def funct7Of (w : Word) : BitVec 7 := w.extractLsb' 25 7

/-- The extra select bit `inst[30]` (R63, R76). -/
def selOf (w : Word) : Bool := w.getLsbD 30

/-- The CSR index `inst[31:20]` (R72). -/
def csrOf (w : Word) : CsrIndex := w.extractLsb' 20 12

/-! ## Immediates (R64 to R71) -/

/-- `sext_N(v)` (R10, R70): bits N-1 to 0 are `v`, every higher bit is a copy of bit N-1 of `v`. -/
def sext {n : Nat} (v : BitVec n) : Word := v.signExtend 32

/-- The I-immediate (R64). -/
def immI (w : Word) : Word := sext (w.extractLsb' 20 12)

/-- The S-immediate (R65). -/
def immS (w : Word) : Word := sext (w.extractLsb' 25 7 ++ w.extractLsb' 7 5)

/-- The B-immediate (R66). -/
def immB (w : Word) : Word :=
  sext (w.extractLsb' 31 1 ++ w.extractLsb' 7 1 ++ w.extractLsb' 25 6 ++ w.extractLsb' 8 4 ++ 0#1)

/-- The J-immediate (R67). -/
def immJ (w : Word) : Word :=
  sext (w.extractLsb' 31 1 ++ w.extractLsb' 12 8 ++ w.extractLsb' 20 1 ++ w.extractLsb' 21 10 ++ 0#1)

/-- The U-immediate (R68). -/
def immU (w : Word) : Word := w.extractLsb' 12 20 ++ 0#12

/-- The shift-amount immediate of SRLI and SRAI, `zext_5(inst[24:20])` (R71). -/
def immShamt (w : Word) : Word := (w.extractLsb' 20 5).setWidth 32

/-! ## Opcode map and function codes (R73 to R81) -/

/-- OP-IMM (R76, R141). -/
def decodeOpImm (w : Word) : Instr :=
  if funct3Of w = 0#3 then .addi (rdOf w) (rs1Of w) (immI w)
  else if funct3Of w = 1#3 then .slli (rdOf w) (rs1Of w) (immI w)
  else if funct3Of w = 2#3 then .slti (rdOf w) (rs1Of w) (immI w)
  else if funct3Of w = 3#3 then .sltiu (rdOf w) (rs1Of w) (immI w)
  else if funct3Of w = 4#3 then .xori (rdOf w) (rs1Of w) (immI w)
  else if funct3Of w = 5#3 then
    if selOf w then .srai (rdOf w) (rs1Of w) (immShamt w) else .srli (rdOf w) (rs1Of w) (immShamt w)
  else if funct3Of w = 6#3 then .ori (rdOf w) (rs1Of w) (immI w)
  else .andi (rdOf w) (rs1Of w) (immI w)

/-- OP (R76, R151). -/
def decodeOp (w : Word) : Instr :=
  if funct3Of w = 0#3 then
    if selOf w then .sub (rdOf w) (rs1Of w) (rs2Of w) else .add (rdOf w) (rs1Of w) (rs2Of w)
  else if funct3Of w = 1#3 then .sll (rdOf w) (rs1Of w) (rs2Of w)
  else if funct3Of w = 2#3 then .slt (rdOf w) (rs1Of w) (rs2Of w)
  else if funct3Of w = 3#3 then .sltu (rdOf w) (rs1Of w) (rs2Of w)
  else if funct3Of w = 4#3 then .xor (rdOf w) (rs1Of w) (rs2Of w)
  else if funct3Of w = 5#3 then
    if selOf w then .sra (rdOf w) (rs1Of w) (rs2Of w) else .srl (rdOf w) (rs1Of w) (rs2Of w)
  else if funct3Of w = 6#3 then .or (rdOf w) (rs1Of w) (rs2Of w)
  else .and (rdOf w) (rs1Of w) (rs2Of w)

/-- BRANCH (R77); `funct3` 010 and 011 name no condition. -/
def decodeBranch (w : Word) : Instr :=
  if funct3Of w = 0#3 then .beq (rs1Of w) (rs2Of w) (immB w)
  else if funct3Of w = 1#3 then .bne (rs1Of w) (rs2Of w) (immB w)
  else if funct3Of w = 4#3 then .blt (rs1Of w) (rs2Of w) (immB w)
  else if funct3Of w = 5#3 then .bge (rs1Of w) (rs2Of w) (immB w)
  else if funct3Of w = 6#3 then .bltu (rs1Of w) (rs2Of w) (immB w)
  else if funct3Of w = 7#3 then .bgeu (rs1Of w) (rs2Of w) (immB w)
  else .branchF301x (rs1Of w) (rs2Of w) (immB w)

/-- LOAD (R78, R210). -/
def decodeLoad (w : Word) : Instr :=
  if funct3Of w = 0#3 then .lb (rdOf w) (rs1Of w) (immI w)
  else if funct3Of w = 1#3 then .lh (rdOf w) (rs1Of w) (immI w)
  else if funct3Of w = 2#3 then .lw (rdOf w) (rs1Of w) (immI w)
  else if funct3Of w = 3#3 then .loadF3011 (rdOf w) (rs1Of w) (immI w)
  else if funct3Of w = 4#3 then .lbu (rdOf w) (rs1Of w) (immI w)
  else if funct3Of w = 5#3 then .lhu (rdOf w) (rs1Of w) (immI w)
  else if funct3Of w = 6#3 then .loadF3110 (rdOf w) (rs1Of w) (immI w)
  else .loadF3111 (rdOf w) (rs1Of w) (immI w)

/-- STORE (R78, R213). -/
def decodeStore (w : Word) : Instr :=
  if funct3Of w = 0#3 then .sb (rs1Of w) (rs2Of w) (immS w)
  else if funct3Of w = 1#3 then .sh (rs1Of w) (rs2Of w) (immS w)
  else if funct3Of w = 2#3 then .sw (rs1Of w) (rs2Of w) (immS w)
  else if funct3Of w = 3#3 then .storeF3011 (rs1Of w) (rs2Of w) (immS w)
  else .storeF31xx (rs1Of w) (rs2Of w) (immS w)

/-- SYSTEM (R79, R230): the two CSR patterns first, then the five words that have a name, then `funct3`. -/
def decodeSystem (w : Word) : Instr :=
  if funct3Of w = 1#3 ∧ rdOf w = 0#5 then .csrrwRd0 (rs1Of w) (csrOf w)
  else if funct3Of w = 2#3 ∧ rs1Of w = 0#5 then .csrrsRs10 (rdOf w) (csrOf w)
  else if w = 0x00000073#32 then .ecall
  else if w = 0x00100073#32 then .ebreak
  else if w = 0x30200073#32 then .mret
  else if w = 0x10200073#32 then .sret
  else if w = 0x10500073#32 then .wfi
  else if funct3Of w = 1#3 then .csrrw (rdOf w) (rs1Of w) (csrOf w)
  else if funct3Of w = 2#3 then .csrrs (rdOf w) (rs1Of w) (csrOf w)
  else if funct3Of w = 3#3 then .csrrc (rdOf w) (rs1Of w) (csrOf w)
  else if funct3Of w = 5#3 then .csrrwi (rdOf w) (rs1Of w) (csrOf w)
  else if funct3Of w = 6#3 then .csrrsi (rdOf w) (rs1Of w) (csrOf w)
  else if funct3Of w = 7#3 then .csrrci (rdOf w) (rs1Of w) (csrOf w)
  else .systemOther (rdOf w) (rs1Of w) (csrOf w)

/-- The decoder: the twelve opcode classes and the default (R73, R74). Total on every word (R81). -/
def decodeWord (w : Word) : Instr :=
  if opcodeOf w = 0x13#7 then decodeOpImm w
  else if opcodeOf w = 0x33#7 then decodeOp w
  else if opcodeOf w = 0x37#7 then .lui (rdOf w) (immU w)
  else if opcodeOf w = 0x17#7 then .auipc (rdOf w) (immU w)
  else if opcodeOf w = 0x6F#7 then .jal (rdOf w) (immJ w)
  else if opcodeOf w = 0x67#7 then .jalr (rdOf w) (rs1Of w) (immI w)
  else if opcodeOf w = 0x63#7 then decodeBranch w
  else if opcodeOf w = 0x03#7 then decodeLoad w
  else if opcodeOf w = 0x23#7 then decodeStore w
  else if opcodeOf w = 0x73#7 then decodeSystem w
  else if opcodeOf w = 0x0F#7 then .miscMem
  else if opcodeOf w = 0x2F#7 then .amo
  else .unrecognized

/-! ## Bytes (R43, R60) -/

/-- Why bytes are no instruction: fewer than four are given (R60: every instruction is one 32-bit word). -/
inductive DecodeReject where
  | truncated
deriving DecidableEq, Repr

/-- The 32-bit word of four bytes, the first at the lowest address: little-endian (R43). -/
def wordOfBytes (b0 b1 b2 b3 : Byte) : Word := b3 ++ b2 ++ b1 ++ b0

/-- Byte `k` of a word, `k = 0` the least significant (R43). -/
def byteOfWord (k : Nat) (w : Word) : Byte := w.extractLsb' (8 * k) 8

/-- The four bytes of a word as memory holds them, lowest address first (R43). -/
def bytesOfWord (w : Word) : List Byte := [byteOfWord 0 w, byteOfWord 1 w, byteOfWord 2 w, byteOfWord 3 w]

/-- Decode one instruction from the front of a list of bytes; the rest of the list is returned (R60). -/
def decode : List Byte → Except DecodeReject (Instr × List Byte)
  | b0 :: b1 :: b2 :: b3 :: rest => .ok (decodeWord (wordOfBytes b0 b1 b2 b3), rest)
  | _ => .error .truncated

/-- The instruction the decoder reads from a row's `nbits` bits `w` (bit 0 the least significant of the one 32-bit word,
the bits above `nbits` 0). -/
def decodeTableWord (nbits w : Nat) : Option Instr :=
  if nbits ≤ 32 then
    match decode (bytesOfWord (BitVec.ofNat 32 (w % 2 ^ nbits))) with
    | .ok (i, _) => some i
    | .error _ => none
  else none

/-! ## The encoder, from the same tables (R62 to R79) -/

/-- R layout (R62). -/
def encR (funct7 : BitVec 7) (rs2 rs1 : RegId) (funct3 : Funct3) (rd : RegId) (op : Opcode) : Word :=
  funct7 ++ rs2 ++ rs1 ++ funct3 ++ rd ++ op

/-- I layout (R62, R64). -/
def encI (imm : Word) (rs1 : RegId) (funct3 : Funct3) (rd : RegId) (op : Opcode) : Word :=
  imm.extractLsb' 0 12 ++ rs1 ++ funct3 ++ rd ++ op

/-- I layout with a CSR index in `inst[31:20]` (R72). -/
def encCsr (csr : CsrIndex) (rs1 : RegId) (funct3 : Funct3) (rd : RegId) : Word :=
  csr ++ rs1 ++ funct3 ++ rd ++ 0x73#7

/-- S layout (R62, R65). -/
def encS (imm : Word) (rs2 rs1 : RegId) (funct3 : Funct3) (op : Opcode) : Word :=
  imm.extractLsb' 5 7 ++ rs2 ++ rs1 ++ funct3 ++ imm.extractLsb' 0 5 ++ op

/-- B layout (R62, R66). -/
def encB (imm : Word) (rs2 rs1 : RegId) (funct3 : Funct3) : Word :=
  imm.extractLsb' 12 1 ++ imm.extractLsb' 5 6 ++ rs2 ++ rs1 ++ funct3 ++ imm.extractLsb' 1 4 ++ imm.extractLsb' 11 1
    ++ 0x63#7

/-- U layout (R62, R68). -/
def encU (imm : Word) (rd : RegId) (op : Opcode) : Word := imm.extractLsb' 12 20 ++ rd ++ op

/-- J layout (R62, R67). -/
def encJ (imm : Word) (rd : RegId) : Word :=
  imm.extractLsb' 20 1 ++ imm.extractLsb' 1 10 ++ imm.extractLsb' 11 1 ++ imm.extractLsb' 12 8 ++ rd ++ 0x6F#7

/-- The word of a well-formed instruction. Bits its row does not examine are 0, and a row that covers several `funct3`
values is given one of them: BRANCH-f3-01x 010, STORE-f3-1xx 100, SYSTEM-other 100 (log entry 18). -/
def encode : Instr → Word
  | .addi rd rs1 imm => encI imm rs1 0#3 rd 0x13#7
  | .slti rd rs1 imm => encI imm rs1 2#3 rd 0x13#7
  | .sltiu rd rs1 imm => encI imm rs1 3#3 rd 0x13#7
  | .xori rd rs1 imm => encI imm rs1 4#3 rd 0x13#7
  | .ori rd rs1 imm => encI imm rs1 6#3 rd 0x13#7
  | .andi rd rs1 imm => encI imm rs1 7#3 rd 0x13#7
  | .slli rd rs1 imm => encI imm rs1 1#3 rd 0x13#7
  | .srai rd rs1 imm => encR 0x20#7 (imm.extractLsb' 0 5) rs1 5#3 rd 0x13#7
  | .srli rd rs1 imm => encR 0#7 (imm.extractLsb' 0 5) rs1 5#3 rd 0x13#7
  | .sub rd rs1 rs2 => encR 0x20#7 rs2 rs1 0#3 rd 0x33#7
  | .add rd rs1 rs2 => encR 0#7 rs2 rs1 0#3 rd 0x33#7
  | .sll rd rs1 rs2 => encR 0#7 rs2 rs1 1#3 rd 0x33#7
  | .slt rd rs1 rs2 => encR 0#7 rs2 rs1 2#3 rd 0x33#7
  | .sltu rd rs1 rs2 => encR 0#7 rs2 rs1 3#3 rd 0x33#7
  | .xor rd rs1 rs2 => encR 0#7 rs2 rs1 4#3 rd 0x33#7
  | .sra rd rs1 rs2 => encR 0x20#7 rs2 rs1 5#3 rd 0x33#7
  | .srl rd rs1 rs2 => encR 0#7 rs2 rs1 5#3 rd 0x33#7
  | .or rd rs1 rs2 => encR 0#7 rs2 rs1 6#3 rd 0x33#7
  | .and rd rs1 rs2 => encR 0#7 rs2 rs1 7#3 rd 0x33#7
  | .lui rd imm => encU imm rd 0x37#7
  | .auipc rd imm => encU imm rd 0x17#7
  | .jal rd imm => encJ imm rd
  | .jalr rd rs1 imm => encI imm rs1 0#3 rd 0x67#7
  | .beq rs1 rs2 imm => encB imm rs2 rs1 0#3
  | .bne rs1 rs2 imm => encB imm rs2 rs1 1#3
  | .blt rs1 rs2 imm => encB imm rs2 rs1 4#3
  | .bge rs1 rs2 imm => encB imm rs2 rs1 5#3
  | .bltu rs1 rs2 imm => encB imm rs2 rs1 6#3
  | .bgeu rs1 rs2 imm => encB imm rs2 rs1 7#3
  | .branchF301x rs1 rs2 imm => encB imm rs2 rs1 2#3
  | .lb rd rs1 imm => encI imm rs1 0#3 rd 0x03#7
  | .lh rd rs1 imm => encI imm rs1 1#3 rd 0x03#7
  | .lw rd rs1 imm => encI imm rs1 2#3 rd 0x03#7
  | .loadF3011 rd rs1 imm => encI imm rs1 3#3 rd 0x03#7
  | .lbu rd rs1 imm => encI imm rs1 4#3 rd 0x03#7
  | .lhu rd rs1 imm => encI imm rs1 5#3 rd 0x03#7
  | .loadF3110 rd rs1 imm => encI imm rs1 6#3 rd 0x03#7
  | .loadF3111 rd rs1 imm => encI imm rs1 7#3 rd 0x03#7
  | .sb rs1 rs2 imm => encS imm rs2 rs1 0#3 0x23#7
  | .sh rs1 rs2 imm => encS imm rs2 rs1 1#3 0x23#7
  | .sw rs1 rs2 imm => encS imm rs2 rs1 2#3 0x23#7
  | .storeF3011 rs1 rs2 imm => encS imm rs2 rs1 3#3 0x23#7
  | .storeF31xx rs1 rs2 imm => encS imm rs2 rs1 4#3 0x23#7
  | .csrrwRd0 rs1 csr => encCsr csr rs1 1#3 0#5
  | .csrrsRs10 rd csr => encCsr csr 0#5 2#3 rd
  | .ecall => 0x00000073#32
  | .ebreak => 0x00100073#32
  | .mret => 0x30200073#32
  | .sret => 0x10200073#32
  | .wfi => 0x10500073#32
  | .csrrw rd rs1 csr => encCsr csr rs1 1#3 rd
  | .csrrs rd rs1 csr => encCsr csr rs1 2#3 rd
  | .csrrc rd rs1 csr => encCsr csr rs1 3#3 rd
  | .csrrwi rd rs1 csr => encCsr csr rs1 5#3 rd
  | .csrrsi rd rs1 csr => encCsr csr rs1 6#3 rd
  | .csrrci rd rs1 csr => encCsr csr rs1 7#3 rd
  | .systemOther rd rs1 csr => encCsr csr rs1 4#3 rd
  | .miscMem => 0x0000000F#32
  | .amo => 0x0000002F#32
  | .unrecognized => 0x00000000#32

/-! ## The opcode table (R86) -/

/-- A row of opcode_table.json: a word belongs to the first row with `word & mask = pattern` (R86). -/
structure OpcodeRow where
  mnemonic : String
  mask : Word
  pattern : Word
deriving DecidableEq, Repr

/-- The rows of OP-IMM, in the table's order. -/
def opImmRows : List OpcodeRow := [
  ⟨"ADDI", 0x0000707F#32, 0x00000013#32⟩,
  ⟨"SLTI", 0x0000707F#32, 0x00002013#32⟩,
  ⟨"SLTIU", 0x0000707F#32, 0x00003013#32⟩,
  ⟨"XORI", 0x0000707F#32, 0x00004013#32⟩,
  ⟨"ORI", 0x0000707F#32, 0x00006013#32⟩,
  ⟨"ANDI", 0x0000707F#32, 0x00007013#32⟩,
  ⟨"SLLI", 0x0000707F#32, 0x00001013#32⟩,
  ⟨"SRAI", 0x4000707F#32, 0x40005013#32⟩,
  ⟨"SRLI", 0x4000707F#32, 0x00005013#32⟩]

/-- The rows of OP, in the table's order. -/
def opRows : List OpcodeRow := [
  ⟨"SUB", 0x4000707F#32, 0x40000033#32⟩,
  ⟨"ADD", 0x4000707F#32, 0x00000033#32⟩,
  ⟨"SLL", 0x0000707F#32, 0x00001033#32⟩,
  ⟨"SLT", 0x0000707F#32, 0x00002033#32⟩,
  ⟨"SLTU", 0x0000707F#32, 0x00003033#32⟩,
  ⟨"XOR", 0x0000707F#32, 0x00004033#32⟩,
  ⟨"SRA", 0x4000707F#32, 0x40005033#32⟩,
  ⟨"SRL", 0x4000707F#32, 0x00005033#32⟩,
  ⟨"OR", 0x0000707F#32, 0x00006033#32⟩,
  ⟨"AND", 0x0000707F#32, 0x00007033#32⟩]

/-- The rows of LUI, AUIPC, JAL, JALR, in the table's order. -/
def upperJumpRows : List OpcodeRow := [
  ⟨"LUI", 0x0000007F#32, 0x00000037#32⟩,
  ⟨"AUIPC", 0x0000007F#32, 0x00000017#32⟩,
  ⟨"JAL", 0x0000007F#32, 0x0000006F#32⟩,
  ⟨"JALR", 0x0000007F#32, 0x00000067#32⟩]

/-- The rows of BRANCH, in the table's order. -/
def branchRows : List OpcodeRow := [
  ⟨"BEQ", 0x0000707F#32, 0x00000063#32⟩,
  ⟨"BNE", 0x0000707F#32, 0x00001063#32⟩,
  ⟨"BLT", 0x0000707F#32, 0x00004063#32⟩,
  ⟨"BGE", 0x0000707F#32, 0x00005063#32⟩,
  ⟨"BLTU", 0x0000707F#32, 0x00006063#32⟩,
  ⟨"BGEU", 0x0000707F#32, 0x00007063#32⟩,
  ⟨"BRANCH-f3-01x", 0x0000607F#32, 0x00002063#32⟩]

/-- The rows of LOAD and STORE, in the table's order. -/
def loadStoreRows : List OpcodeRow := [
  ⟨"LB", 0x0000707F#32, 0x00000003#32⟩,
  ⟨"LH", 0x0000707F#32, 0x00001003#32⟩,
  ⟨"LW", 0x0000707F#32, 0x00002003#32⟩,
  ⟨"LOAD-f3-011", 0x0000707F#32, 0x00003003#32⟩,
  ⟨"LBU", 0x0000707F#32, 0x00004003#32⟩,
  ⟨"LHU", 0x0000707F#32, 0x00005003#32⟩,
  ⟨"LOAD-f3-110", 0x0000707F#32, 0x00006003#32⟩,
  ⟨"LOAD-f3-111", 0x0000707F#32, 0x00007003#32⟩,
  ⟨"SB", 0x0000707F#32, 0x00000023#32⟩,
  ⟨"SH", 0x0000707F#32, 0x00001023#32⟩,
  ⟨"SW", 0x0000707F#32, 0x00002023#32⟩,
  ⟨"STORE-f3-011", 0x0000707F#32, 0x00003023#32⟩,
  ⟨"STORE-f3-1xx", 0x0000407F#32, 0x00004023#32⟩]

/-- The rows of SYSTEM, in the table's order. -/
def systemRows : List OpcodeRow := [
  ⟨"CSRRW-rd0", 0x00007FFF#32, 0x00001073#32⟩,
  ⟨"CSRRS-rs10", 0x000FF07F#32, 0x00002073#32⟩,
  ⟨"ECALL", 0xFFFFFFFF#32, 0x00000073#32⟩,
  ⟨"EBREAK", 0xFFFFFFFF#32, 0x00100073#32⟩,
  ⟨"MRET", 0xFFFFFFFF#32, 0x30200073#32⟩,
  ⟨"SRET", 0xFFFFFFFF#32, 0x10200073#32⟩,
  ⟨"WFI", 0xFFFFFFFF#32, 0x10500073#32⟩,
  ⟨"CSRRW", 0x0000707F#32, 0x00001073#32⟩,
  ⟨"CSRRS", 0x0000707F#32, 0x00002073#32⟩,
  ⟨"CSRRC", 0x0000707F#32, 0x00003073#32⟩,
  ⟨"CSRRWI", 0x0000707F#32, 0x00005073#32⟩,
  ⟨"CSRRSI", 0x0000707F#32, 0x00006073#32⟩,
  ⟨"CSRRCI", 0x0000707F#32, 0x00007073#32⟩,
  ⟨"SYSTEM-other", 0x0000007F#32, 0x00000073#32⟩]

/-- The rows of MISC-MEM, AMO and the default, in the table's order. -/
def otherRows : List OpcodeRow := [
  ⟨"MISC-MEM", 0x0000007F#32, 0x0000000F#32⟩,
  ⟨"AMO", 0x0000007F#32, 0x0000002F#32⟩,
  ⟨"UNRECOGNIZED", 0x00000000#32, 0x00000000#32⟩]

/-- The whole table, in the table's order. -/
def opcodeRows : List OpcodeRow :=
  opImmRows ++ opRows ++ upperJumpRows ++ branchRows ++ loadStoreRows ++ systemRows ++ otherRows

/-- The first row a word belongs to (R86). -/
def firstRow (w : Word) : Option OpcodeRow := opcodeRows.find? fun r => w &&& r.mask == r.pattern

/-- The mnemonic of the row a constructor stands for. -/
def Instr.mnemonic : Instr → String
  | .addi _ _ _ => "ADDI"
  | .slti _ _ _ => "SLTI"
  | .sltiu _ _ _ => "SLTIU"
  | .xori _ _ _ => "XORI"
  | .ori _ _ _ => "ORI"
  | .andi _ _ _ => "ANDI"
  | .slli _ _ _ => "SLLI"
  | .srai _ _ _ => "SRAI"
  | .srli _ _ _ => "SRLI"
  | .sub _ _ _ => "SUB"
  | .add _ _ _ => "ADD"
  | .sll _ _ _ => "SLL"
  | .slt _ _ _ => "SLT"
  | .sltu _ _ _ => "SLTU"
  | .xor _ _ _ => "XOR"
  | .sra _ _ _ => "SRA"
  | .srl _ _ _ => "SRL"
  | .or _ _ _ => "OR"
  | .and _ _ _ => "AND"
  | .lui _ _ => "LUI"
  | .auipc _ _ => "AUIPC"
  | .jal _ _ => "JAL"
  | .jalr _ _ _ => "JALR"
  | .beq _ _ _ => "BEQ"
  | .bne _ _ _ => "BNE"
  | .blt _ _ _ => "BLT"
  | .bge _ _ _ => "BGE"
  | .bltu _ _ _ => "BLTU"
  | .bgeu _ _ _ => "BGEU"
  | .branchF301x _ _ _ => "BRANCH-f3-01x"
  | .lb _ _ _ => "LB"
  | .lh _ _ _ => "LH"
  | .lw _ _ _ => "LW"
  | .loadF3011 _ _ _ => "LOAD-f3-011"
  | .lbu _ _ _ => "LBU"
  | .lhu _ _ _ => "LHU"
  | .loadF3110 _ _ _ => "LOAD-f3-110"
  | .loadF3111 _ _ _ => "LOAD-f3-111"
  | .sb _ _ _ => "SB"
  | .sh _ _ _ => "SH"
  | .sw _ _ _ => "SW"
  | .storeF3011 _ _ _ => "STORE-f3-011"
  | .storeF31xx _ _ _ => "STORE-f3-1xx"
  | .csrrwRd0 _ _ => "CSRRW-rd0"
  | .csrrsRs10 _ _ => "CSRRS-rs10"
  | .ecall => "ECALL"
  | .ebreak => "EBREAK"
  | .mret => "MRET"
  | .sret => "SRET"
  | .wfi => "WFI"
  | .csrrw _ _ _ => "CSRRW"
  | .csrrs _ _ _ => "CSRRS"
  | .csrrc _ _ _ => "CSRRC"
  | .csrrwi _ _ _ => "CSRRWI"
  | .csrrsi _ _ _ => "CSRRSI"
  | .csrrci _ _ _ => "CSRRCI"
  | .systemOther _ _ _ => "SYSTEM-other"
  | .miscMem => "MISC-MEM"
  | .amo => "AMO"
  | .unrecognized => "UNRECOGNIZED"

end Sys2Proof
end

