-- ==== Sys2Proof/Config.lean ====
section
/-! DEFINITION. What is fixed for one machine: the implementation parameters of spec 00_scope.md R7, the values the model
names where the spec leaves a parameter open, and the opaque operations of a CSR collaborator of unknown behaviour. -/

namespace Sys2Proof

/-- The parameter `misalignedDataPolicy` (R46, D12). -/
inductive MisalignedPolicy where
  | fault
  | split
deriving DecidableEq, Repr

/-- A range of byte addresses that exist: `base` up to, not including, `base + size`. -/
structure Region where
  base : Nat
  size : Nat
deriving DecidableEq, Repr

/-- The implementation parameters a step depends on (R7): `MemMap` (R49), `misalignedDataPolicy` (R46) and
`refuseUnsupported` (R120). They are plain data carried by State, and no step changes them. -/
structure Params where
  memMap : List Region
  misalignedDataPolicy : MisalignedPolicy
  refuseUnsupported : Bool
deriving DecidableEq, Repr

/-- `RESET_PC` of State.reset. DESIGN CHOICE, log entry 1, unsafe: the spec gives no value (R36, N27). -/
def Config.resetPc : Word := 0

/-- `gprInit` of State.reset, the value of x1 to x31. DESIGN CHOICE, log entry 2, unsafe: the spec gives none (R37). -/
def Config.gprInit : Word := 0

/-- The parameters of State.reset. `MemMap` is every 32-bit address: DESIGN CHOICE, log entry 9, unsafe (R49 leaves it
open). The other two are the spec's defaults (R46, R120). -/
def Config.params : Params where
  memMap := [⟨0, 4294967296⟩]
  misalignedDataPolicy := .fault
  refuseUnsupported := false

/-! The five operations of a CSR collaborator of unknown behaviour (R30), on data of its own. They have no body: nothing
can be proved about a value of theirs, so what is proved holds for every such collaborator (D15, log entry 6, safe). Each
may change the collaborator's data, `read` and `getMessage` too. -/

/-- `read` of an unknown collaborator: the value at an index, and its data after the read. -/
opaque Config.csrRead : List Word → CsrIndex → Word × List Word

/-- `write` of an unknown collaborator. -/
opaque Config.csrWrite : List Word → CsrIndex → Word → List Word

/-- `instructionExecuted()` of an unknown collaborator. -/
opaque Config.csrExecuted : List Word → List Word

/-- `reset()` of an unknown collaborator. -/
opaque Config.csrReset : List Word → List Word

/-- `getMessage()` of an unknown collaborator: the optional message, and its data afterwards. -/
opaque Config.csrMessage : List Word → Option Word × List Word

end Sys2Proof
end

