-- ==== Sys2Proof/Machine/State.lean ====
section
/-! DEFINITION. The state of the machine (10_state.md), the reasons a step can stop (60_exceptions.md R262, 40_pipeline.md
R120), and the state after reset. All of it is plain data. -/

namespace Sys2Proof.Machine

/-- The category of an instruction (R101). -/
inductive Kind where
  | alu | branch | jump | jumpRegister | load | store | csrRead | csrWrite | auipc | system | unsupported
deriving DecidableEq, Repr

/-- The model faults, each with the offending address (R262). The hardware has no trap: the machine stops. -/
inductive Fault where
  /-- Raised by the fetch: `pc[1:0] ≠ 0` (R44). Safe: the model stops where the spec's machine stops. -/
  | fetchMisaligned (addr : Word)
  /-- Raised by LW and SW under the policy `fault`: the address is no multiple of 4 (R46). Safe: as the spec says. -/
  | dataMisaligned (addr : Word)
  /-- Raised by the fetch, LW and SW: one of the four bytes is outside `MemMap` (R49). Safe: as the spec says. -/
  | accessFault (addr : Word)
deriving DecidableEq, Repr

/-- The reasons a step is refused. -/
inductive Refusal where
  /-- Raised by an arm of `exec` with no meaning yet; no arm is left so. Safe: the model stops. -/
  | notModelled (mnemonic : String)
  /-- Raised by a step of kind Unsupported or System, or of kind Branch with condition Never, and only when the parameter
  `refuseUnsupported` is true (R120). Safe: the model stops, as the spec's parameter asks. -/
  | noOpRefused (kind : Kind)
deriving DecidableEq, Repr

/-- Memory (R40 to R43, R48): the bytes that differ from what an unlisted address reads as, by strictly rising address. -/
structure Memory where
  cells : List Host.Cell
deriving DecidableEq, Repr

/-- The CSR collaborator (R29, R30, D15). -/
inductive CsrFile where
  /-- The plain collaborator of 92_eei_decisions.md D15: 4096 words, no side effects, no message. `cells` lists the entries
  that are not 0 by strictly rising index; `executed` counts the `instructionExecuted()` calls since `reset()` (R116) and is
  read by nothing (log entry 5). -/
  | plain (cells : List (Nat × Word)) (executed : Nat)
  /-- A collaborator of unknown behaviour, with data of its own (log entry 6). -/
  | external (data : List Word)
deriving DecidableEq, Repr

/-- The state of the machine (10_state.md §1). -/
structure State where
  /-- The program counter (R20). -/
  pc : Word
  /-- The register file (R25). Slot 0 is neither read nor written: `x0` is hard-wired (log entry 3). -/
  regs : Vector Word 32
  /-- The CSR collaborator (R29). -/
  csr : CsrFile
  /-- Memory (R40). -/
  mem : Memory
  /-- The host message the last completed step surfaced, if any (R118, log entry 8). -/
  message : Option Word
  /-- The implementation parameters (R7, log entry 10). -/
  params : Params
deriving DecidableEq, Repr

/-- The state right after reset (R36 to R39). The start address, the register values, the CSR collaborator, the map and
what an unlisted byte reads as are the model's choices: log entries 1, 2, 4, 7, 9. -/
def State.reset : State where
  pc := Config.resetPc
  regs := (Vector.replicate 32 Config.gprInit).set 0 0
  csr := .plain [] 0
  mem := ⟨[]⟩
  message := none
  params := Config.params

end Sys2Proof.Machine
end

