-- ==== Sys2Proof/Machine/Ops.lean ====
section
/-! DEFINITION. The named operations over the state: sparse storage, memory (20_memory.md), the register file (10_state.md
R25 to R27), the CSR collaborator (R30), the fetch, the end of a step, and reset. There is no exception to take and none to
return from (60_exceptions.md R260, R266); a fault is the outcome `.fault` (R262). -/

namespace Sys2Proof.Machine

/-! ## Sparse storage: a list of (key, value) pairs that lists no default value -/

/-- The value at a key; `d` where the key is not listed. -/
def sparseGet {α : Type} (d : α) : List (Nat × α) → Nat → α
  | [], _ => d
  | (k, v) :: rest, a => if k = a then v else sparseGet d rest a

/-- Take a key out of the list. -/
def sparseErase {α : Type} (a : Nat) : List (Nat × α) → List (Nat × α)
  | [] => []
  | (k, v) :: rest => if k = a then sparseErase a rest else (k, v) :: sparseErase a rest

/-- Put a pair before the first greater key. -/
def sparseInsert {α : Type} (a : Nat) (v : α) : List (Nat × α) → List (Nat × α)
  | [] => [(a, v)]
  | (k, w) :: rest => if a < k then (a, v) :: (k, w) :: rest else (k, w) :: sparseInsert a v rest

/-- Set the value at a key; setting the default value takes the entry out. -/
def sparseSet {α : Type} [DecidableEq α] (d : α) (a : Nat) (v : α) (m : List (Nat × α)) : List (Nat × α) :=
  if v = d then sparseErase a m else sparseInsert a v (sparseErase a m)

/-- Canonical from `lo` on: keys rise strictly from at least `lo`, stay below `bound`, and no value is the default. -/
def sparseWfFrom {α : Type} [DecidableEq α] (d : α) (bound : Nat) : Nat → List (Nat × α) → Bool
  | _, [] => true
  | lo, (k, v) :: rest => decide (lo ≤ k) && decide (k < bound) && decide (v ≠ d) && sparseWfFrom d bound (k + 1) rest

/-- The canonical form of a sparse list. -/
def sparseWf {α : Type} [DecidableEq α] (d : α) (bound : Nat) (m : List (Nat × α)) : Bool := sparseWfFrom d bound 0 m

/-! ## Memory (R40 to R50) -/

/-- What an address that is not listed reads as. DESIGN CHOICE, log entry 7, unsafe: the spec gives memory no content
(R39, N7). -/
def unlistedByte : Byte := 0

/-- The byte at an address. -/
def Memory.readByte (m : Memory) (a : Word) : Byte := sparseGet unlistedByte m.cells a.toNat

/-- Write one byte. -/
def Memory.writeByte (m : Memory) (a : Word) (b : Byte) : Memory := ⟨sparseSet unlistedByte a.toNat b m.cells⟩

/-- `MemRead(a, 4)`: little-endian (R43); addresses are modulo 2^32 (R42, log entry 11). -/
def Memory.readWord (m : Memory) (a : Word) : Word :=
  wordOfBytes (m.readByte a) (m.readByte (a + 1)) (m.readByte (a + 2)) (m.readByte (a + 3))

/-- `MemWrite(a, 4, v)`: little-endian (R43). -/
def Memory.writeWord (m : Memory) (a v : Word) : Memory :=
  (((m.writeByte a (byteOfWord 0 v)).writeByte (a + 1) (byteOfWord 1 v)).writeByte (a + 2) (byteOfWord 2 v)).writeByte
    (a + 3) (byteOfWord 3 v)

/-- The canonical form of memory. -/
def Memory.wf (m : Memory) : Bool := sparseWf unlistedByte 4294967296 m.cells

/-- An address lies in a range of the map. -/
def Region.has (r : Region) (a : Word) : Bool := decide (r.base ≤ a.toNat) && decide (a.toNat < r.base + r.size)

/-- An address is in `MemMap` (R49). -/
def inMap (m : List Region) (a : Word) : Bool := m.any fun r => Region.has r a

/-- The four bytes from an address on are all in `MemMap` (R49, R117). -/
def wordInMap (m : List Region) (a : Word) : Bool := inMap m a && inMap m (a + 1) && inMap m (a + 2) && inMap m (a + 3)

/-- The address is a multiple of 4: `a[1:0] = 0` (R44, R46). -/
def isAligned (a : Word) : Bool := decide (a.extractLsb' 0 2 = 0#2)

/-- The fault of a data access of four bytes, if any: DataMisaligned before AccessFault (R46, R49, R263). -/
def dataFault (p : Params) (a : Word) : Option Fault :=
  if !isAligned a && decide (p.misalignedDataPolicy = .fault) then some (.dataMisaligned a)
  else if !wordInMap p.memMap a then some (.accessFault a)
  else none

/-- `MemFetch(pc)` with its checks: FetchMisaligned before AccessFault (R44, R49, R117, R263). -/
def fetchWord (s : State) : Except Fault Word :=
  if !isAligned s.pc then .error (.fetchMisaligned s.pc)
  else if !wordInMap s.params.memMap s.pc then .error (.accessFault s.pc)
  else .ok (s.mem.readWord s.pc)

/-! ## Registers (R25 to R27) -/

/-- `x[r]`: `x0` reads 0 (R25). -/
def State.getReg (s : State) (r : RegId) : Word := if r = 0#5 then 0 else s.regs[r.toNat]'(r.isLt)

/-- `x[r] <- v`: a write to `x0` is never made (R25). -/
def State.setReg (s : State) (r : RegId) (v : Word) : State :=
  if r = 0#5 then s else { s with regs := s.regs.set r.toNat v r.isLt }

/-! ## The CSR collaborator (R29 to R31, D15) -/

/-- What a CSR of the plain collaborator holds after `reset()` (D15). -/
def csrResetWord : Word := 0

/-- `read`: the value at an index, and the collaborator afterwards. -/
def CsrFile.read (f : CsrFile) (c : CsrIndex) : Word × CsrFile :=
  match f with
  | .plain cells n => (sparseGet csrResetWord cells c.toNat, .plain cells n)
  | .external data => ((Config.csrRead data c).1, .external (Config.csrRead data c).2)

/-- `write`: `CSR[c] <- v`. -/
def CsrFile.write (f : CsrFile) (c : CsrIndex) (v : Word) : CsrFile :=
  match f with
  | .plain cells n => .plain (sparseSet csrResetWord c.toNat v cells) n
  | .external data => .external (Config.csrWrite data c v)

/-- `instructionExecuted()` (R116). -/
def CsrFile.instructionExecuted (f : CsrFile) : CsrFile :=
  match f with
  | .plain cells n => .plain cells (n + 1)
  | .external data => .external (Config.csrExecuted data)

/-- `reset()` (R38). -/
def CsrFile.reset (f : CsrFile) : CsrFile :=
  match f with
  | .plain _ _ => .plain [] 0
  | .external data => .external (Config.csrReset data)

/-- `getMessage()` (R118): the optional message, and the collaborator afterwards. The plain one has none (D15). -/
def CsrFile.getMessage (f : CsrFile) : Option Word × CsrFile :=
  match f with
  | .plain cells n => (none, .plain cells n)
  | .external data => ((Config.csrMessage data).1, .external (Config.csrMessage data).2)

/-- The plain collaborator's list is canonical; nothing is asked of a collaborator of unknown behaviour. -/
def CsrFile.wf (f : CsrFile) : Bool :=
  match f with
  | .plain cells _ => sparseWf csrResetWord 4096 cells
  | .external _ => true

/-! ## The end of a step, and reset -/

/-- The end of a completed step: the notification (R116), `pc <- nextPc` (R22), the message (R118). -/
def State.retire (s : State) (nextPc : Word) : State :=
  { s with
    csr := s.csr.instructionExecuted.getMessage.2
    pc := nextPc
    message := s.csr.instructionExecuted.getMessage.1 }

/-- Reset: `pc` gets the supplied start address and the CSR collaborator is reset; registers and memory are not touched
(R280, R36 to R39). No message of an earlier step is left (R39, log entry 8). -/
def State.resetAt (s : State) (startAddress : Word) : State :=
  { s with pc := startAddress, csr := s.csr.reset, message := none }

end Sys2Proof.Machine
end

