-- ==== Sys2Proof/Machine/Alu.lean ====
section
/-! DEFINITION. The ALU (41_alu.md R130 to R140). No operation sets a flag or traps (R28, R164). -/

namespace Sys2Proof.Machine

/-- The ALU operations (R102). -/
inductive AluOp where
  | none | add | sub | and | or | xor | slt | sltu | sll | srl | sra
deriving DecidableEq, Repr

/-- A comparison as a word: 1 or 0 (R135, R136). -/
def wordOfBool (b : Bool) : Word := if b then 1 else 0

/-- The shift amount: the right operand modulo 32 (R137 to R139). -/
def shiftAmount (b : Word) : Nat := (b.extractLsb' 0 5).toNat

/-- `ALU(op, a, b)` (R130 to R140). -/
def alu (op : AluOp) (a b : Word) : Word :=
  match op with
  | .none => 0
  | .add => a + b
  | .sub => a - b
  | .and => a &&& b
  | .or => a ||| b
  | .xor => a ^^^ b
  | .slt => wordOfBool (decide (a.toInt < b.toInt))
  | .sltu => wordOfBool (decide (a.toNat < b.toNat))
  | .sll => a <<< shiftAmount b
  | .srl => a >>> shiftAmount b
  | .sra => a.sshiftRight (shiftAmount b)

end Sys2Proof.Machine
end

