-- ==== Sys2Proof/Machine/Flags.lean ====
section
/-! DEFINITION. The block has no flags and no condition codes (10_state.md R28): a branch condition is computed from the two
operand values (42_control.md R180). -/

namespace Sys2Proof.Machine

/-- The branch conditions (R103). -/
inductive BrCond where
  | eq | ne | lt | ltu | ge | geu | always | never
deriving DecidableEq, Repr

/-- `cond(brCond, a, b)` (R180). -/
def evalCond (c : BrCond) (a b : Word) : Bool :=
  match c with
  | .eq => decide (a = b)
  | .ne => decide (a ≠ b)
  | .lt => decide (a.toInt < b.toInt)
  | .ge => decide (a.toInt ≥ b.toInt)
  | .ltu => decide (a.toNat < b.toNat)
  | .geu => decide (a.toNat ≥ b.toNat)
  | .always => true
  | .never => false

end Sys2Proof.Machine
end

