-- ==== Sys2Proof/Machine/Record.lean ====
section
/-! DEFINITION. The Decoded Instruction record (40_pipeline.md R100 to R104), its normalization (R106), and what each
instruction class's handler puts into it (41_alu.md R141, R151, R162, R163; 42_control.md R182 to R184; 43_loadstore.md R210,
R213; 44_system.md R230, R234 to R236). The record is transient: State holds none (10_state.md R34). -/

namespace Sys2Proof.Machine

/-- The Decoded Instruction (R100). -/
structure Decoded where
  kind : Kind
  aluOp : AluOp
  brCond : BrCond
  rd : Option RegId
  rs1 : Option RegId
  rs2 : Option RegId
  imm : Option Word
  csrIdx : Option CsrIndex
  rs1Val : Word
  rs2Val : Word
  csrVal : Word
  addr : Option Word
  result : Word
  nextPc : Word
deriving DecidableEq, Repr

/-- The record before a handler runs (R104). `nextPc` has no value there by the spec; it is always written before it is
read (log entry 14). -/
def blankRecord : Decoded where
  kind := .unsupported
  aluOp := .none
  brCond := .never
  rd := none
  rs1 := none
  rs2 := none
  imm := none
  csrIdx := none
  rs1Val := 0
  rs2Val := 0
  csrVal := 0
  addr := none
  result := 0
  nextPc := 0

/-- Destination 0 is cleared to absent, for every kind; sources are not (R106). -/
def Decoded.normalize (d : Decoded) : Decoded := if d.rd = some 0#5 then { d with rd := none } else d

/-- OP-IMM (R141). -/
def opImmRecord (op : AluOp) (rd rs1 : RegId) (imm : Word) : Decoded :=
  Decoded.normalize { blankRecord with kind := .alu, aluOp := op, rd := some rd, rs1 := some rs1, imm := some imm }

/-- OP (R151). -/
def opRecord (op : AluOp) (rd rs1 rs2 : RegId) : Decoded :=
  Decoded.normalize { blankRecord with kind := .alu, aluOp := op, rd := some rd, rs1 := some rs1, rs2 := some rs2 }

/-- LUI: source 1 is identifier 0, present (R162). -/
def luiRecord (rd : RegId) (imm : Word) : Decoded :=
  Decoded.normalize { blankRecord with kind := .alu, aluOp := .add, rd := some rd, rs1 := some 0#5, imm := some imm }

/-- AUIPC (R163). -/
def auipcRecord (rd : RegId) (imm : Word) : Decoded :=
  Decoded.normalize { blankRecord with kind := .auipc, rd := some rd, imm := some imm }

/-- JAL (R182). -/
def jalRecord (rd : RegId) (imm : Word) : Decoded :=
  Decoded.normalize { blankRecord with kind := .jump, brCond := .always, rd := some rd, imm := some imm }

/-- JALR (R183). -/
def jalrRecord (rd rs1 : RegId) (imm : Word) : Decoded :=
  Decoded.normalize
    { blankRecord with kind := .jumpRegister, brCond := .always, rd := some rd, rs1 := some rs1, imm := some imm }

/-- BRANCH (R184). -/
def branchRecord (c : BrCond) (rs1 rs2 : RegId) (imm : Word) : Decoded :=
  Decoded.normalize { blankRecord with kind := .branch, brCond := c, rs1 := some rs1, rs2 := some rs2, imm := some imm }

/-- LOAD, of either kind (R210). -/
def loadRecord (k : Kind) (rd rs1 : RegId) (imm : Word) : Decoded :=
  Decoded.normalize { blankRecord with kind := k, aluOp := .add, rd := some rd, rs1 := some rs1, imm := some imm }

/-- STORE, of either kind (R213). -/
def storeRecord (k : Kind) (rs1 rs2 : RegId) (imm : Word) : Decoded :=
  Decoded.normalize { blankRecord with kind := k, aluOp := .add, rs1 := some rs1, rs2 := some rs2, imm := some imm }

/-- SYSTEM, of each of its three kinds (R230). -/
def systemRecord (k : Kind) (rd rs1 : RegId) (csr : CsrIndex) : Decoded :=
  Decoded.normalize { blankRecord with kind := k, csrIdx := some csr, rd := some rd, rs1 := some rs1 }

/-- MISC-MEM, AMO and the default handler: nothing is set (R234 to R236). -/
def noFieldRecord : Decoded := Decoded.normalize blankRecord

end Sys2Proof.Machine
end

