-- ==== Sys2Proof/Machine/Operands.lean ====
section
/-! DEFINITION. The operand forms: a register source, an immediate, a CSR source (40_pipeline.md R107), the right operand of
the ALU and the ALU phase's gate (R108). The one addressing mode, base plus displacement (43_loadstore.md R216), is the ALU's
sum of source 1 and the immediate (R109). -/

namespace Sys2Proof.Machine

/-- The value of a source identifier: an absent one gives 0 (R107). -/
def readSource (s : State) (r : Option RegId) : Word :=
  match r with
  | some r => s.getReg r
  | none => 0

/-- The kinds that read a CSR (R107, D16). -/
def readsCsr (k : Kind) : Bool :=
  match k with
  | .csrRead | .csrWrite => true
  | .alu | .branch | .jump | .jumpRegister | .load | .store | .auipc | .system | .unsupported => false

/-- The CSR read of a record: the value, and the collaborator afterwards; no read for the other kinds (R107). -/
def readCsr (d : Decoded) (f : CsrFile) : Word × CsrFile :=
  match readsCsr d.kind, d.csrIdx with
  | true, some c => f.read c
  | _, _ => (0, f)

/-- The register and CSR read: the record with its operand values bound (R107). -/
def Decoded.bind (d : Decoded) (s : State) : Decoded :=
  { d with rs1Val := readSource s d.rs1, rs2Val := readSource s d.rs2, csrVal := (readCsr d s.csr).1 }

/-- The right operand of the ALU: the immediate where there is one, else source 2; none where both are absent (R108). -/
def rightOperand (d : Decoded) : Option Word :=
  match d.imm, d.rs2 with
  | some v, _ => some v
  | none, some _ => some d.rs2Val
  | none, none => none

/-- `aluOut`: the ALU's output where source 1 and a right operand are present, else 0 (R108). -/
def aluOut (d : Decoded) : Word :=
  match d.rs1, rightOperand d with
  | some _, some b => alu d.aluOp d.rs1Val b
  | _, _ => 0

/-- The immediate as it enters a sum; every record whose kind adds one has it (log entry 14). -/
def immValue (d : Decoded) : Word := d.imm.getD 0

end Sys2Proof.Machine
end

