-- ==== Sys2Proof/Machine/Datapath.lean ====
section
/-! DEFINITION. The execute phases and the rest of a step (40_pipeline.md R108 to R118, R120; 42_control.md R181): every
instruction's meaning is its record run through this one datapath. -/

namespace Sys2Proof.Machine

/-- The kinds that have a data address (R109). -/
def accessesMemory (k : Kind) : Bool :=
  match k with
  | .load | .store => true
  | .alu | .branch | .jump | .jumpRegister | .csrRead | .csrWrite | .auipc | .system | .unsupported => false

/-- The kinds that may write a register (R112). -/
def writesRegister (k : Kind) : Bool :=
  match k with
  | .alu | .auipc | .jump | .jumpRegister | .load | .csrRead => true
  | .branch | .store | .csrWrite | .system | .unsupported => false

/-- The write-back value by kind (R110). -/
def wbSelect (d : Decoded) (out pc : Word) : Word :=
  match d.kind with
  | .csrRead => d.csrVal
  | .csrWrite => d.rs1Val
  | .store => d.rs2Val
  | .jump | .jumpRegister => pc + 4
  | .auipc => pc + immValue d
  | .alu | .load | .branch | .system | .unsupported => out

/-- The ALU phase: `addr` and `result` (R108 to R110). -/
def aluPhase (d : Decoded) (pc : Word) : Decoded :=
  { d with
    addr := if accessesMemory d.kind then some (aluOut d) else none
    result := wbSelect d (aluOut d) pc }

/-- The PC multiplexer (R181). -/
def pcMux (d : Decoded) (pc : Word) : Word :=
  match d.kind with
  | .branch | .jump => if evalCond d.brCond d.rs1Val d.rs2Val then pc + immValue d else pc + 4
  | .jumpRegister => if evalCond d.brCond d.rs1Val d.rs2Val then d.rs1Val + immValue d else pc + 4
  | .alu | .auipc | .load | .store | .csrRead | .csrWrite | .system | .unsupported => pc + 4

/-- The control phase: `nextPc` (R181). -/
def controlPhase (d : Decoded) (pc : Word) : Decoded := { d with nextPc := pcMux d pc }

/-- Execute: the ALU phase, then the control phase (R111). -/
def execute (d : Decoded) (pc : Word) : Decoded := controlPhase (aluPhase d pc) pc

/-- The fault of an executed record's data access, if it makes one and the access faults (R117). -/
def recordFault (d : Decoded) (p : Params) : Option Fault :=
  match d.addr with
  | some a => dataFault p a
  | none => none

/-- The value a register write takes: the loaded word for kind Load, else `result` (R112, R113). -/
def wbData (d : Decoded) (m : Memory) : Word :=
  match d.kind, d.addr with
  | .load, some a => m.readWord a
  | _, _ => d.result

/-- The data write of kind Store (R114). -/
def storePhase (d : Decoded) (m : Memory) : Memory :=
  match d.kind, d.addr with
  | .store, some a => m.writeWord a d.result
  | _, _ => m

/-- The register write, under its enable (R112). -/
def writeBack (d : Decoded) (v : Word) (s : State) : State :=
  match writesRegister d.kind, d.rd with
  | true, some r => s.setReg r v
  | _, _ => s

/-- The CSR write of kind CsrWrite (R115). -/
def csrWritePhase (d : Decoded) (f : CsrFile) : CsrFile :=
  match d.kind, d.csrIdx with
  | .csrWrite, some c => f.write c d.result
  | _, _ => f

/-- The effects of an executed record, in the order of R117: data access, register write, CSR write, notification, PC
update, message. The collaborator has by then answered the CSR read (R107). -/
def commit (d : Decoded) (s : State) : State :=
  let v := wbData d s.mem
  let s := { s with csr := (readCsr d s.csr).2, mem := storePhase d s.mem }
  let s := writeBack d v s
  let s := { s with csr := csrWritePhase d s.csr }
  s.retire d.nextPc

/-- The steps `refuseUnsupported` is about: kinds Unsupported and System, and Branch with condition Never (R120). -/
def isNoOp (d : Decoded) : Bool :=
  match d.kind with
  | .unsupported | .system => true
  | .branch => decide (d.brCond = .never)
  | .alu | .jump | .jumpRegister | .load | .store | .csrRead | .csrWrite | .auipc => false

/-- The record with its operands bound and both phases run (R107, R111). -/
def executed (d : Decoded) (s : State) : Decoded := execute (d.bind s) s.pc

/-- The step from the decoded record on (R117, R120). -/
def runRecord (d : Decoded) (s : State) : Host.Outcome State Fault Refusal :=
  if s.params.refuseUnsupported && isNoOp d then .refused (.noOpRefused d.kind)
  else
    match recordFault (executed d s) s.params with
    | some f => .fault f
    | none => .next (commit (executed d s) s)

end Sys2Proof.Machine
end

