-- ==== Sys2Proof/Machine/Control.lean ====
section
/-! DEFINITION. The meanings of JAL, JALR and BRANCH (42_control.md): each is the record its handler makes, run through the datapath. -/

namespace Sys2Proof.Machine

/-- JAL (R182): `t <- pc + immJ; x[rd] <- pc + 4; pc <- t`. -/
def execJal (rd : RegId) (imm : Word) (s : State) : Host.Outcome State Fault Refusal :=
  runRecord (jalRecord rd imm) s

/-- JALR (R183): `t <- x[rs1] + immI; x[rd] <- pc + 4; pc <- t`, no bit of `t` cleared. -/
def execJalr (rd : RegId) (rs1 : RegId) (imm : Word) (s : State) : Host.Outcome State Fault Refusal :=
  runRecord (jalrRecord rd rs1 imm) s

/-- BEQ (R185): `pc <- eq(x[rs1], x[rs2]) ? pc + immB : pc + 4`. -/
def execBeq (rs1 : RegId) (rs2 : RegId) (imm : Word) (s : State) : Host.Outcome State Fault Refusal :=
  runRecord (branchRecord .eq rs1 rs2 imm) s

/-- BNE (R186): `pc <- ne(x[rs1], x[rs2]) ? pc + immB : pc + 4`. -/
def execBne (rs1 : RegId) (rs2 : RegId) (imm : Word) (s : State) : Host.Outcome State Fault Refusal :=
  runRecord (branchRecord .ne rs1 rs2 imm) s

/-- BLT (R187): `pc <- lt(x[rs1], x[rs2]) ? pc + immB : pc + 4`. -/
def execBlt (rs1 : RegId) (rs2 : RegId) (imm : Word) (s : State) : Host.Outcome State Fault Refusal :=
  runRecord (branchRecord .lt rs1 rs2 imm) s

/-- BGE (R188): `pc <- ge(x[rs1], x[rs2]) ? pc + immB : pc + 4`. -/
def execBge (rs1 : RegId) (rs2 : RegId) (imm : Word) (s : State) : Host.Outcome State Fault Refusal :=
  runRecord (branchRecord .ge rs1 rs2 imm) s

/-- BLTU (R189): `pc <- ltu(x[rs1], x[rs2]) ? pc + immB : pc + 4`. -/
def execBltu (rs1 : RegId) (rs2 : RegId) (imm : Word) (s : State) : Host.Outcome State Fault Refusal :=
  runRecord (branchRecord .ltu rs1 rs2 imm) s

/-- BGEU (R190): `pc <- geu(x[rs1], x[rs2]) ? pc + immB : pc + 4`. -/
def execBgeu (rs1 : RegId) (rs2 : RegId) (imm : Word) (s : State) : Host.Outcome State Fault Refusal :=
  runRecord (branchRecord .geu rs1 rs2 imm) s

/-- BRANCH-f3-01x (R191): condition Never, `pc <- pc + 4`. -/
def execBranchF301x (rs1 : RegId) (rs2 : RegId) (imm : Word) (s : State) : Host.Outcome State Fault Refusal :=
  runRecord (branchRecord .never rs1 rs2 imm) s

end Sys2Proof.Machine
end

