-- ==== Sys2Proof/Machine/LoadStore.lean ====
section
/-! DEFINITION. The meanings of LOAD and STORE (43_loadstore.md): each is the record its handler makes, run through the datapath. -/

namespace Sys2Proof.Machine

/-- LB (R212): no effect but `pc <- pc + 4` and the notification. -/
def execLb (rd : RegId) (rs1 : RegId) (imm : Word) (s : State) : Host.Outcome State Fault Refusal :=
  runRecord (loadRecord .unsupported rd rs1 imm) s

/-- LH (R212): no effect but `pc <- pc + 4` and the notification. -/
def execLh (rd : RegId) (rs1 : RegId) (imm : Word) (s : State) : Host.Outcome State Fault Refusal :=
  runRecord (loadRecord .unsupported rd rs1 imm) s

/-- LW (R211): `x[rd] <- MemRead(x[rs1] + immI, 4)`. -/
def execLw (rd : RegId) (rs1 : RegId) (imm : Word) (s : State) : Host.Outcome State Fault Refusal :=
  runRecord (loadRecord .load rd rs1 imm) s

/-- LOAD-f3-011 (R212): no effect but `pc <- pc + 4` and the notification. -/
def execLoadF3011 (rd : RegId) (rs1 : RegId) (imm : Word) (s : State) : Host.Outcome State Fault Refusal :=
  runRecord (loadRecord .unsupported rd rs1 imm) s

/-- LBU (R212): no effect but `pc <- pc + 4` and the notification. -/
def execLbu (rd : RegId) (rs1 : RegId) (imm : Word) (s : State) : Host.Outcome State Fault Refusal :=
  runRecord (loadRecord .unsupported rd rs1 imm) s

/-- LHU (R212): no effect but `pc <- pc + 4` and the notification. -/
def execLhu (rd : RegId) (rs1 : RegId) (imm : Word) (s : State) : Host.Outcome State Fault Refusal :=
  runRecord (loadRecord .unsupported rd rs1 imm) s

/-- LOAD-f3-110 (R212): no effect but `pc <- pc + 4` and the notification. -/
def execLoadF3110 (rd : RegId) (rs1 : RegId) (imm : Word) (s : State) : Host.Outcome State Fault Refusal :=
  runRecord (loadRecord .unsupported rd rs1 imm) s

/-- LOAD-f3-111 (R212): no effect but `pc <- pc + 4` and the notification. -/
def execLoadF3111 (rd : RegId) (rs1 : RegId) (imm : Word) (s : State) : Host.Outcome State Fault Refusal :=
  runRecord (loadRecord .unsupported rd rs1 imm) s

/-- SB (R215): no effect but `pc <- pc + 4` and the notification. -/
def execSb (rs1 : RegId) (rs2 : RegId) (imm : Word) (s : State) : Host.Outcome State Fault Refusal :=
  runRecord (storeRecord .unsupported rs1 rs2 imm) s

/-- SH (R215): no effect but `pc <- pc + 4` and the notification. -/
def execSh (rs1 : RegId) (rs2 : RegId) (imm : Word) (s : State) : Host.Outcome State Fault Refusal :=
  runRecord (storeRecord .unsupported rs1 rs2 imm) s

/-- SW (R214): `MemWrite(x[rs1] + immS, 4, x[rs2])`. -/
def execSw (rs1 : RegId) (rs2 : RegId) (imm : Word) (s : State) : Host.Outcome State Fault Refusal :=
  runRecord (storeRecord .store rs1 rs2 imm) s

/-- STORE-f3-011 (R215): no effect but `pc <- pc + 4` and the notification. -/
def execStoreF3011 (rs1 : RegId) (rs2 : RegId) (imm : Word) (s : State) : Host.Outcome State Fault Refusal :=
  runRecord (storeRecord .unsupported rs1 rs2 imm) s

/-- STORE-f3-1xx (R215): no effect but `pc <- pc + 4` and the notification. -/
def execStoreF31xx (rs1 : RegId) (rs2 : RegId) (imm : Word) (s : State) : Host.Outcome State Fault Refusal :=
  runRecord (storeRecord .unsupported rs1 rs2 imm) s

end Sys2Proof.Machine
end

