-- ==== Sys2Proof/Machine/Op.lean ====
section
/-! DEFINITION. The meanings of OP (41_alu.md §3): each is the record its handler makes, run through the datapath. -/

namespace Sys2Proof.Machine

/-- SUB (R153): `x[rd] <- x[rs1] - x[rs2]`. -/
def execSub (rd : RegId) (rs1 : RegId) (rs2 : RegId) (s : State) : Host.Outcome State Fault Refusal :=
  runRecord (opRecord .sub rd rs1 rs2) s

/-- ADD (R152): `x[rd] <- x[rs1] + x[rs2]`. -/
def execAdd (rd : RegId) (rs1 : RegId) (rs2 : RegId) (s : State) : Host.Outcome State Fault Refusal :=
  runRecord (opRecord .add rd rs1 rs2) s

/-- SLL (R154): `x[rd] <- x[rs1] << x[rs2][4:0]`. -/
def execSll (rd : RegId) (rs1 : RegId) (rs2 : RegId) (s : State) : Host.Outcome State Fault Refusal :=
  runRecord (opRecord .sll rd rs1 rs2) s

/-- SLT (R155): `x[rd] <- (x[rs1] <s x[rs2]) ? 1 : 0`. -/
def execSlt (rd : RegId) (rs1 : RegId) (rs2 : RegId) (s : State) : Host.Outcome State Fault Refusal :=
  runRecord (opRecord .slt rd rs1 rs2) s

/-- SLTU (R156): `x[rd] <- (x[rs1] <u x[rs2]) ? 1 : 0`. -/
def execSltu (rd : RegId) (rs1 : RegId) (rs2 : RegId) (s : State) : Host.Outcome State Fault Refusal :=
  runRecord (opRecord .sltu rd rs1 rs2) s

/-- XOR (R157): `x[rd] <- x[rs1] XOR x[rs2]`. -/
def execXor (rd : RegId) (rs1 : RegId) (rs2 : RegId) (s : State) : Host.Outcome State Fault Refusal :=
  runRecord (opRecord .xor rd rs1 rs2) s

/-- SRA (R159): `x[rd] <- signed(x[rs1]) >> x[rs2][4:0]`. -/
def execSra (rd : RegId) (rs1 : RegId) (rs2 : RegId) (s : State) : Host.Outcome State Fault Refusal :=
  runRecord (opRecord .sra rd rs1 rs2) s

/-- SRL (R158): `x[rd] <- unsigned(x[rs1]) >> x[rs2][4:0]`. -/
def execSrl (rd : RegId) (rs1 : RegId) (rs2 : RegId) (s : State) : Host.Outcome State Fault Refusal :=
  runRecord (opRecord .srl rd rs1 rs2) s

/-- OR (R160): `x[rd] <- x[rs1] OR x[rs2]`. -/
def execOr (rd : RegId) (rs1 : RegId) (rs2 : RegId) (s : State) : Host.Outcome State Fault Refusal :=
  runRecord (opRecord .or rd rs1 rs2) s

/-- AND (R161): `x[rd] <- x[rs1] AND x[rs2]`. -/
def execAnd (rd : RegId) (rs1 : RegId) (rs2 : RegId) (s : State) : Host.Outcome State Fault Refusal :=
  runRecord (opRecord .and rd rs1 rs2) s

end Sys2Proof.Machine
end

