-- ==== Sys2Proof/Machine/OpImm.lean ====
section
/-! DEFINITION. The meanings of OP-IMM (41_alu.md §2): each is the record its handler makes, run through the datapath. -/

namespace Sys2Proof.Machine

/-- ADDI (R142): `x[rd] <- x[rs1] + imm`. -/
def execAddi (rd : RegId) (rs1 : RegId) (imm : Word) (s : State) : Host.Outcome State Fault Refusal :=
  runRecord (opImmRecord .add rd rs1 imm) s

/-- SLTI (R143): `x[rd] <- (x[rs1] <s imm) ? 1 : 0`. -/
def execSlti (rd : RegId) (rs1 : RegId) (imm : Word) (s : State) : Host.Outcome State Fault Refusal :=
  runRecord (opImmRecord .slt rd rs1 imm) s

/-- SLTIU (R144): `x[rd] <- (x[rs1] <u imm) ? 1 : 0`. -/
def execSltiu (rd : RegId) (rs1 : RegId) (imm : Word) (s : State) : Host.Outcome State Fault Refusal :=
  runRecord (opImmRecord .sltu rd rs1 imm) s

/-- XORI (R145): `x[rd] <- x[rs1] XOR imm`. -/
def execXori (rd : RegId) (rs1 : RegId) (imm : Word) (s : State) : Host.Outcome State Fault Refusal :=
  runRecord (opImmRecord .xor rd rs1 imm) s

/-- ORI (R146): `x[rd] <- x[rs1] OR imm`. -/
def execOri (rd : RegId) (rs1 : RegId) (imm : Word) (s : State) : Host.Outcome State Fault Refusal :=
  runRecord (opImmRecord .or rd rs1 imm) s

/-- ANDI (R147): `x[rd] <- x[rs1] AND imm`. -/
def execAndi (rd : RegId) (rs1 : RegId) (imm : Word) (s : State) : Host.Outcome State Fault Refusal :=
  runRecord (opImmRecord .and rd rs1 imm) s

/-- SLLI (R148): `x[rd] <- x[rs1] << imm[4:0]`. -/
def execSlli (rd : RegId) (rs1 : RegId) (imm : Word) (s : State) : Host.Outcome State Fault Refusal :=
  runRecord (opImmRecord .sll rd rs1 imm) s

/-- SRAI (R150): `x[rd] <- signed(x[rs1]) >> imm`. -/
def execSrai (rd : RegId) (rs1 : RegId) (imm : Word) (s : State) : Host.Outcome State Fault Refusal :=
  runRecord (opImmRecord .sra rd rs1 imm) s

/-- SRLI (R149): `x[rd] <- unsigned(x[rs1]) >> imm`. -/
def execSrli (rd : RegId) (rs1 : RegId) (imm : Word) (s : State) : Host.Outcome State Fault Refusal :=
  runRecord (opImmRecord .srl rd rs1 imm) s

end Sys2Proof.Machine
end

