-- ==== Sys2Proof/Machine/System.lean ====
section
/-! DEFINITION. The meanings of SYSTEM, MISC-MEM, AMO and the default handler (44_system.md): each is the record its handler makes, run through the datapath. -/

namespace Sys2Proof.Machine

/-- CSRRW-rd0 (R231): `CSR[csr] <- x[rs1]`, after a read whose value is dropped. -/
def execCsrrwRd0 (rs1 : RegId) (csr : CsrIndex) (s : State) : Host.Outcome State Fault Refusal :=
  runRecord (systemRecord .csrWrite 0#5 rs1 csr) s

/-- CSRRS-rs10 (R232): `x[rd] <- CSR[csr]`, no CSR written. -/
def execCsrrsRs10 (rd : RegId) (csr : CsrIndex) (s : State) : Host.Outcome State Fault Refusal :=
  runRecord (systemRecord .csrRead rd 0#5 csr) s

/-- ECALL (R233): no effect but `pc <- pc + 4` and the notification. -/
def execEcall (s : State) : Host.Outcome State Fault Refusal :=
  runRecord (systemRecord .system 0#5 0#5 0x000#12) s

/-- EBREAK (R233): no effect but `pc <- pc + 4` and the notification. -/
def execEbreak (s : State) : Host.Outcome State Fault Refusal :=
  runRecord (systemRecord .system 0#5 0#5 0x001#12) s

/-- MRET (R233): no effect but `pc <- pc + 4` and the notification. -/
def execMret (s : State) : Host.Outcome State Fault Refusal :=
  runRecord (systemRecord .system 0#5 0#5 0x302#12) s

/-- SRET (R233): no effect but `pc <- pc + 4` and the notification. -/
def execSret (s : State) : Host.Outcome State Fault Refusal :=
  runRecord (systemRecord .system 0#5 0#5 0x102#12) s

/-- WFI (R233): no effect but `pc <- pc + 4` and the notification. -/
def execWfi (s : State) : Host.Outcome State Fault Refusal :=
  runRecord (systemRecord .system 0#5 0#5 0x105#12) s

/-- CSRRW (R233): no effect but `pc <- pc + 4` and the notification. -/
def execCsrrw (rd : RegId) (rs1 : RegId) (csr : CsrIndex) (s : State) : Host.Outcome State Fault Refusal :=
  runRecord (systemRecord .system rd rs1 csr) s

/-- CSRRS (R233): no effect but `pc <- pc + 4` and the notification. -/
def execCsrrs (rd : RegId) (rs1 : RegId) (csr : CsrIndex) (s : State) : Host.Outcome State Fault Refusal :=
  runRecord (systemRecord .system rd rs1 csr) s

/-- CSRRC (R233): no effect but `pc <- pc + 4` and the notification. -/
def execCsrrc (rd : RegId) (rs1 : RegId) (csr : CsrIndex) (s : State) : Host.Outcome State Fault Refusal :=
  runRecord (systemRecord .system rd rs1 csr) s

/-- CSRRWI (R233): no effect but `pc <- pc + 4` and the notification. -/
def execCsrrwi (rd : RegId) (rs1 : RegId) (csr : CsrIndex) (s : State) : Host.Outcome State Fault Refusal :=
  runRecord (systemRecord .system rd rs1 csr) s

/-- CSRRSI (R233): no effect but `pc <- pc + 4` and the notification. -/
def execCsrrsi (rd : RegId) (rs1 : RegId) (csr : CsrIndex) (s : State) : Host.Outcome State Fault Refusal :=
  runRecord (systemRecord .system rd rs1 csr) s

/-- CSRRCI (R233): no effect but `pc <- pc + 4` and the notification. -/
def execCsrrci (rd : RegId) (rs1 : RegId) (csr : CsrIndex) (s : State) : Host.Outcome State Fault Refusal :=
  runRecord (systemRecord .system rd rs1 csr) s

/-- SYSTEM-other (R233): no effect but `pc <- pc + 4` and the notification. -/
def execSystemOther (rd : RegId) (rs1 : RegId) (csr : CsrIndex) (s : State) : Host.Outcome State Fault Refusal :=
  runRecord (systemRecord .system rd rs1 csr) s

/-- MISC-MEM (R234): no effect but `pc <- pc + 4` and the notification. -/
def execMiscMem (s : State) : Host.Outcome State Fault Refusal :=
  runRecord noFieldRecord s

/-- AMO (R235): no effect but `pc <- pc + 4` and the notification. -/
def execAmo (s : State) : Host.Outcome State Fault Refusal :=
  runRecord noFieldRecord s

/-- UNRECOGNIZED (R236): no effect but `pc <- pc + 4` and the notification. -/
def execUnrecognized (s : State) : Host.Outcome State Fault Refusal :=
  runRecord noFieldRecord s

end Sys2Proof.Machine
end

