-- ==== Sys2Proof/Machine/Upper.lean ====
section
/-! DEFINITION. The meanings of LUI and AUIPC (41_alu.md §4): each is the record its handler makes, run through the datapath. -/

namespace Sys2Proof.Machine

/-- LUI (R162): `x[rd] <- 0 + immU`. -/
def execLui (rd : RegId) (imm : Word) (s : State) : Host.Outcome State Fault Refusal :=
  runRecord (luiRecord rd imm) s

/-- AUIPC (R163): `x[rd] <- pc + immU`. -/
def execAuipc (rd : RegId) (imm : Word) (s : State) : Host.Outcome State Fault Refusal :=
  runRecord (auipcRecord rd imm) s

end Sys2Proof.Machine
end

