-- ==== Sys2Proof/Machine/Step.lean ====
section
/-! DEFINITION. One step (40_pipeline.md R117): fetch with its checks, decode, and the instruction's meaning, which does the
rest of the step (operand read to message). -/

namespace Sys2Proof.Machine

/-- One step (R117). -/
def step (s : State) : Host.Outcome State Fault Refusal :=
  match fetchWord s with
  | .error f => .fault f
  | .ok w => exec (decodeWord w) s

/-- `s` with the instruction of `nbits` bits `w` stored where the next step fetches: the four bytes at `pc`. This stands for
the host's load of a program (R282, log entry 17). -/
def State.withFetchWord (s : State) (nbits w : Nat) : State :=
  { s with mem := s.mem.writeWord s.pc (BitVec.ofNat 32 (w % 2 ^ nbits)) }

end Sys2Proof.Machine
end

