-- ==== Sys2Proof/Machine/Handlers.lean ====
section
/-! DEFINITION. The opcode dispatcher and the class handlers on a raw word (30_encoding.md R73 to R75; 40_pipeline.md R105): a
second reading of the decoder, from word to record, beside `decodeWord` and the opcode table; and the record of each
instruction of the table. -/

namespace Sys2Proof.Machine

/-- The twelve opcode classes and the default (R73, R74). -/
inductive OpClass where
  | opImm | op | lui | auipc | jal | jalr | branch | load | store | system | miscMem | amo | default
deriving DecidableEq, Repr

/-- The software form of the dispatcher (R75): the registrations, the last one first, and the default handler if there is
one. -/
structure Registry where
  entries : List (Opcode × OpClass)
  default : Option OpClass
deriving DecidableEq, Repr

/-- `register(opcode, handler)` (R75): the last registration of an opcode wins. -/
def Registry.register (r : Registry) (op : Opcode) (h : OpClass) : Registry :=
  { r with entries := (op, h) :: r.entries.filter fun e => e.1 ≠ op }

/-- `dispatch(opcode)` (R75): the registered handler, else the default; `none` is the fatal construction error of a
registry without a default (R264). DESIGN CHOICE (log entry 19): without a default a registered opcode still has its handler,
and only an opcode that is not registered is fatal; the spec does not say which queries are. -/
def Registry.dispatch (r : Registry) (op : Opcode) : Option OpClass :=
  match r.entries.find? fun e => e.1 = op with
  | some e => some e.2
  | none => r.default

/-- The fixed table of the hardware: the twelve registrations of R73 and the default, always present (R74). -/
def fixedRegistry : Registry :=
  ((((((((((((Registry.mk [] (some .default)).register 0x03#7 .load).register 0x0F#7 .miscMem).register 0x13#7
    .opImm).register 0x17#7 .auipc).register 0x23#7 .store).register 0x2F#7 .amo).register 0x33#7 .op).register 0x37#7
    .lui).register 0x63#7 .branch).register 0x67#7 .jalr).register 0x6F#7 .jal).register 0x73#7 .system

/-- The opcode dispatcher: total (R74). -/
def dispatch (op : Opcode) : OpClass := (fixedRegistry.dispatch op).getD .default

/-- The five immediates, computed for every word (R69). -/
structure Immediates where
  i : Word
  s : Word
  b : Word
  j : Word
  u : Word
deriving DecidableEq, Repr

/-- Step (b) of decode (R69, R105). -/
def immediates (w : Word) : Immediates := ⟨immI w, immS w, immB w, immJ w, immU w⟩

/-- The ALU operation of OP-IMM (R76). -/
def opImmAluOp (funct3 : Funct3) (sel : Bool) : AluOp :=
  if funct3 = 0#3 then .add
  else if funct3 = 1#3 then .sll
  else if funct3 = 2#3 then .slt
  else if funct3 = 3#3 then .sltu
  else if funct3 = 4#3 then .xor
  else if funct3 = 5#3 then (if sel then .sra else .srl)
  else if funct3 = 6#3 then .or
  else .and

/-- The ALU operation of OP: as OP-IMM, and Sub (R76). -/
def opAluOp (funct3 : Funct3) (sel : Bool) : AluOp :=
  if funct3 = 0#3 then (if sel then .sub else .add) else opImmAluOp funct3 sel

/-- The branch condition (R77). -/
def branchCond (funct3 : Funct3) : BrCond :=
  if funct3 = 0#3 then .eq
  else if funct3 = 1#3 then .ne
  else if funct3 = 4#3 then .lt
  else if funct3 = 5#3 then .ge
  else if funct3 = 6#3 then .ltu
  else if funct3 = 7#3 then .geu
  else .never

/-- The kind of a SYSTEM word, from the raw fields (R230). -/
def systemKind (funct3 : Funct3) (rd rs1 : RegId) : Kind :=
  if funct3 = 1#3 ∧ rd = 0#5 then .csrWrite
  else if funct3 = 2#3 ∧ rs1 = 0#5 then .csrRead
  else .system

/-- The record of a class on a word, before normalization: the handler sets the fields its rule names (R104, R105). -/
def handle (c : OpClass) (w : Word) (m : Immediates) : Decoded :=
  match c with
  | .opImm =>
    { blankRecord with
      kind := .alu
      aluOp := opImmAluOp (funct3Of w) (selOf w)
      rd := some (rdOf w)
      rs1 := some (rs1Of w)
      imm := some (if funct3Of w = 5#3 then (m.i.extractLsb' 0 5).setWidth 32 else m.i) }
  | .op =>
    { blankRecord with
      kind := .alu
      aluOp := opAluOp (funct3Of w) (selOf w)
      rd := some (rdOf w)
      rs1 := some (rs1Of w)
      rs2 := some (rs2Of w) }
  | .lui => { blankRecord with kind := .alu, aluOp := .add, rd := some (rdOf w), rs1 := some 0#5, imm := some m.u }
  | .auipc => { blankRecord with kind := .auipc, rd := some (rdOf w), imm := some m.u }
  | .jal => { blankRecord with kind := .jump, brCond := .always, rd := some (rdOf w), imm := some m.j }
  | .jalr =>
    { blankRecord with
      kind := .jumpRegister
      brCond := .always
      rd := some (rdOf w)
      rs1 := some (rs1Of w)
      imm := some m.i }
  | .branch =>
    { blankRecord with
      kind := .branch
      brCond := branchCond (funct3Of w)
      rs1 := some (rs1Of w)
      rs2 := some (rs2Of w)
      imm := some m.b }
  | .load =>
    { blankRecord with
      kind := if funct3Of w = 2#3 then .load else .unsupported
      aluOp := .add
      rd := some (rdOf w)
      rs1 := some (rs1Of w)
      imm := some m.i }
  | .store =>
    { blankRecord with
      kind := if funct3Of w = 2#3 then .store else .unsupported
      aluOp := .add
      rs1 := some (rs1Of w)
      rs2 := some (rs2Of w)
      imm := some m.s }
  | .system =>
    { blankRecord with
      kind := systemKind (funct3Of w) (rdOf w) (rs1Of w)
      csrIdx := some (csrOf w)
      rd := some (rdOf w)
      rs1 := some (rs1Of w) }
  | .miscMem | .amo | .default => blankRecord

/-- `decode(inst)` of R105: opcode, immediates, dispatch, handler, normalization. -/
def decodeRecord (w : Word) : Decoded := (handle (dispatch (opcodeOf w)) w (immediates w)).normalize

/-- The record of an instruction of the table: what its meaning runs. -/
def recordOf (i : Instr) : Decoded :=
  match i with
  | .addi rd rs1 imm => opImmRecord .add rd rs1 imm
  | .slti rd rs1 imm => opImmRecord .slt rd rs1 imm
  | .sltiu rd rs1 imm => opImmRecord .sltu rd rs1 imm
  | .xori rd rs1 imm => opImmRecord .xor rd rs1 imm
  | .ori rd rs1 imm => opImmRecord .or rd rs1 imm
  | .andi rd rs1 imm => opImmRecord .and rd rs1 imm
  | .slli rd rs1 imm => opImmRecord .sll rd rs1 imm
  | .srai rd rs1 imm => opImmRecord .sra rd rs1 imm
  | .srli rd rs1 imm => opImmRecord .srl rd rs1 imm
  | .sub rd rs1 rs2 => opRecord .sub rd rs1 rs2
  | .add rd rs1 rs2 => opRecord .add rd rs1 rs2
  | .sll rd rs1 rs2 => opRecord .sll rd rs1 rs2
  | .slt rd rs1 rs2 => opRecord .slt rd rs1 rs2
  | .sltu rd rs1 rs2 => opRecord .sltu rd rs1 rs2
  | .xor rd rs1 rs2 => opRecord .xor rd rs1 rs2
  | .sra rd rs1 rs2 => opRecord .sra rd rs1 rs2
  | .srl rd rs1 rs2 => opRecord .srl rd rs1 rs2
  | .or rd rs1 rs2 => opRecord .or rd rs1 rs2
  | .and rd rs1 rs2 => opRecord .and rd rs1 rs2
  | .lui rd imm => luiRecord rd imm
  | .auipc rd imm => auipcRecord rd imm
  | .jal rd imm => jalRecord rd imm
  | .jalr rd rs1 imm => jalrRecord rd rs1 imm
  | .beq rs1 rs2 imm => branchRecord .eq rs1 rs2 imm
  | .bne rs1 rs2 imm => branchRecord .ne rs1 rs2 imm
  | .blt rs1 rs2 imm => branchRecord .lt rs1 rs2 imm
  | .bge rs1 rs2 imm => branchRecord .ge rs1 rs2 imm
  | .bltu rs1 rs2 imm => branchRecord .ltu rs1 rs2 imm
  | .bgeu rs1 rs2 imm => branchRecord .geu rs1 rs2 imm
  | .branchF301x rs1 rs2 imm => branchRecord .never rs1 rs2 imm
  | .lb rd rs1 imm => loadRecord .unsupported rd rs1 imm
  | .lh rd rs1 imm => loadRecord .unsupported rd rs1 imm
  | .lw rd rs1 imm => loadRecord .load rd rs1 imm
  | .loadF3011 rd rs1 imm => loadRecord .unsupported rd rs1 imm
  | .lbu rd rs1 imm => loadRecord .unsupported rd rs1 imm
  | .lhu rd rs1 imm => loadRecord .unsupported rd rs1 imm
  | .loadF3110 rd rs1 imm => loadRecord .unsupported rd rs1 imm
  | .loadF3111 rd rs1 imm => loadRecord .unsupported rd rs1 imm
  | .sb rs1 rs2 imm => storeRecord .unsupported rs1 rs2 imm
  | .sh rs1 rs2 imm => storeRecord .unsupported rs1 rs2 imm
  | .sw rs1 rs2 imm => storeRecord .store rs1 rs2 imm
  | .storeF3011 rs1 rs2 imm => storeRecord .unsupported rs1 rs2 imm
  | .storeF31xx rs1 rs2 imm => storeRecord .unsupported rs1 rs2 imm
  | .csrrwRd0 rs1 csr => systemRecord .csrWrite 0#5 rs1 csr
  | .csrrsRs10 rd csr => systemRecord .csrRead rd 0#5 csr
  | .ecall => systemRecord .system 0#5 0#5 0x000#12
  | .ebreak => systemRecord .system 0#5 0#5 0x001#12
  | .mret => systemRecord .system 0#5 0#5 0x302#12
  | .sret => systemRecord .system 0#5 0#5 0x102#12
  | .wfi => systemRecord .system 0#5 0#5 0x105#12
  | .csrrw rd rs1 csr => systemRecord .system rd rs1 csr
  | .csrrs rd rs1 csr => systemRecord .system rd rs1 csr
  | .csrrc rd rs1 csr => systemRecord .system rd rs1 csr
  | .csrrwi rd rs1 csr => systemRecord .system rd rs1 csr
  | .csrrsi rd rs1 csr => systemRecord .system rd rs1 csr
  | .csrrci rd rs1 csr => systemRecord .system rd rs1 csr
  | .systemOther rd rs1 csr => systemRecord .system rd rs1 csr
  | .miscMem => noFieldRecord
  | .amo => noFieldRecord
  | .unrecognized => noFieldRecord

end Sys2Proof.Machine
end

