-- ==== Sys2Proof/Machine/Ports.lean ====
section
/-! DEFINITION. The block as hardware (40_pipeline.md R119): a combinational function from the fetched word, `pc` and the
values its collaborators give, to its output ports. A port and its `_valid` bit are one optional value; `kind`, `alu_op` and
`br_cond` are enumerations (log entry 15). -/

namespace Sys2Proof.Machine

/-- The input ports but `clk`, `rst` and `reset_pc`, which are the step and `State.resetAt`. -/
structure PortsIn where
  inst : Word
  rs1Val : Word
  rs2Val : Word
  csrVal : Word
  memRdata : Word
deriving DecidableEq, Repr

/-- The output ports (R119). -/
structure PortsOut where
  pc : Word
  kind : Kind
  aluOp : AluOp
  brCond : BrCond
  rd : Option RegId
  rs1 : Option RegId
  rs2 : Option RegId
  imm : Option Word
  csrIdx : Option CsrIndex
  csrRe : Bool
  aluOut : Word
  result : Word
  memAddr : Word
  memRe : Bool
  memWe : Bool
  memWdata : Word
  gprWe : Bool
  gprWdata : Word
  csrWe : Bool
  csrWdata : Word
  instret : Bool
  nextPc : Word
deriving DecidableEq, Repr

/-- The block (R119): every output is a function of `inst`, `pc`, `rs1_val`, `rs2_val`, `csr_val` and `mem_rdata` only.
`instret` is the pulse of a step that completes. DESIGN CHOICE (log entry 15): these inputs do not show whether the step
completes, so `instret` is true for all of them, and on a step that faults or is refused it means nothing. -/
def block (pc : Word) (p : PortsIn) : PortsOut :=
  let d := { decodeRecord p.inst with rs1Val := p.rs1Val, rs2Val := p.rs2Val, csrVal := p.csrVal }
  let e := execute d pc
  { pc := pc
    kind := d.kind
    aluOp := d.aluOp
    brCond := d.brCond
    rd := d.rd
    rs1 := d.rs1
    rs2 := d.rs2
    imm := d.imm
    csrIdx := d.csrIdx
    csrRe := readsCsr d.kind
    aluOut := Sys2Proof.Machine.aluOut d
    result := e.result
    memAddr := e.addr.getD 0
    memRe := decide (d.kind = .load)
    memWe := decide (d.kind = .store)
    memWdata := p.rs2Val
    gprWe := d.rd.isSome && writesRegister d.kind
    gprWdata := if d.kind = .load then p.memRdata else e.result
    csrWe := decide (d.kind = .csrWrite)
    csrWdata := p.rs1Val
    instret := true
    nextPc := e.nextPc }

end Sys2Proof.Machine
end

