-- ==== Sys2Proof/Safety.lean ====
section
/-! DEFINITION. Runs and what counts as a safe one. The block never stops by itself (70_reset_and_hazards.md R287): a run
ends by a model fault, by a refusal, or where the host's predicate `runEnd` holds after a completed step. -/

namespace Sys2Proof.Machine

/-- `k` steps from `s`, stopping at the first fault or refusal. -/
def runSteps (k : Nat) (s : State) : Host.Outcome State Fault Refusal := Sys2Proof.core.run k s

/-- `s` completes `k` steps and is then in `t`. -/
def Reaches (s : State) (k : Nat) (t : State) : Prop := runSteps k s = .next t

/-- `s` completes `k` steps with no fault and no refusal. -/
def SafeFor (k : Nat) (s : State) : Prop := ∃ t, Reaches s k t

/-- How a run that the host watches ends. -/
inductive RunResult where
  | ended (s : State)
  | outOfSteps (s : State)
  | faulted (f : Fault)
  | refused (r : Refusal)
deriving DecidableEq, Repr

/-- A run of at most `k` steps that ends where `runEnd` holds after a completed step (R287, log entry 12). -/
def runUntil (runEnd : State → Bool) : Nat → State → RunResult
  | 0, s => .outOfSteps s
  | k + 1, s =>
    match step s with
    | .next t => if runEnd t then .ended t else runUntil runEnd k t
    | .fault f => .faulted f
    | .refused r => .refused r

/-- The form every reachable state has: memory and the plain CSR list are canonical, and the slot of `x0` holds 0. -/
def State.Inv (s : State) : Prop := s.mem.wf = true ∧ s.csr.wf = true ∧ s.regs[0] = 0

end Sys2Proof.Machine
end

