-- ==== Sys2Proof/Certificates/Slice0/Obligations.lean ====
section
/-! DEFINITION. The statements for the provers, from the numbered rules of spec/. "Derived" ones rest on a rule the spec marks
as its own decision or on a choice of the model; their docstrings say which. -/

open Sys2Proof Sys2Proof.Machine

/-- The bits a word's class examines to choose kind and operation (R80), as far as they matter: `funct3`, the extra select
bit, and whether the register field that SYSTEM tests is 0. -/
def Sys2Proof.Claims.examined (w : Word) : Funct3 × Bool × Bool :=
  match dispatch (opcodeOf w) with
  | .opImm => (funct3Of w, decide (funct3Of w = 5#3) && selOf w, false)
  | .op => (funct3Of w, decide (funct3Of w = 0#3 ∨ funct3Of w = 5#3) && selOf w, false)
  | .branch => (funct3Of w, false, false)
  | .load | .store => (0#3, decide (funct3Of w = 2#3), false)
  | .system =>
    (funct3Of w, decide (funct3Of w = 1#3) && decide (rdOf w = 0#5), decide (funct3Of w = 2#3) && decide (rs1Of w = 0#5))
  | .lui | .auipc | .jal | .jalr | .miscMem | .amo | .default => (0#3, false, false)

/-- Decode and encode agree on every well-formed instruction: no operand bit of an encoding is dropped (R62 to R79). Which of
its words a row with unexamined bits is encoded as is the model's choice (log entry 18). -/
def Obligations.DecodeOfEncodeIsIdentity : Prop :=
  ∀ i : Instr, i.wf = true → decodeWord (encode i) = i

/-- The decoder gives only well-formed instructions (R64 to R68, R71, R230; property 5 of 95_test_vectors.md). -/
def Obligations.DecodedInstructionsAreWellFormed : Prop :=
  ∀ w : Word, (decodeWord w).wf = true

/-- The immediates of R64 to R68 in plain arithmetic, with the ranges the rules give. The fragment positions are the spec's
(30_encoding.md, marked there as general knowledge, G1). -/
def Obligations.ImmediateValues : Prop :=
  ∀ w : Word,
    ((immI w).toInt = (w.toNat / 2 ^ 20 : Nat) - 4096 * (w.toNat / 2 ^ 31 : Nat) ∧
      -2048 ≤ (immI w).toInt ∧ (immI w).toInt ≤ 2047) ∧
    ((immS w).toInt = 32 * (w.toNat / 2 ^ 25 : Nat) + (w.toNat / 2 ^ 7 % 32 : Nat) - 4096 * (w.toNat / 2 ^ 31 : Nat) ∧
      -2048 ≤ (immS w).toInt ∧ (immS w).toInt ≤ 2047) ∧
    ((immB w).toInt = 2048 * (w.toNat / 2 ^ 7 % 2 : Nat) + 32 * (w.toNat / 2 ^ 25 % 64 : Nat)
        + 2 * (w.toNat / 2 ^ 8 % 16 : Nat) - 4096 * (w.toNat / 2 ^ 31 : Nat) ∧
      -4096 ≤ (immB w).toInt ∧ (immB w).toInt ≤ 4094 ∧ (immB w).toInt % 2 = 0) ∧
    ((immJ w).toInt = 4096 * (w.toNat / 2 ^ 12 % 256 : Nat) + 2048 * (w.toNat / 2 ^ 20 % 2 : Nat)
        + 2 * (w.toNat / 2 ^ 21 % 1024 : Nat) - 1048576 * (w.toNat / 2 ^ 31 : Nat) ∧
      -1048576 ≤ (immJ w).toInt ∧ (immJ w).toInt ≤ 1048574 ∧ (immJ w).toInt % 2 = 0) ∧
    (immU w).toNat = w.toNat / 2 ^ 12 * 4096

/-- The sign extender of R70, by bits and by its closed form. -/
def Obligations.SignExtenderClosedForm : Prop :=
  ∀ (n : Nat) (v : BitVec n), 0 < n → n ≤ 32 →
    (∀ i, i < 32 → (sext v).getLsbD i = if i < n then v.getLsbD i else v.getLsbD (n - 1)) ∧
    sext v = v.setWidth 32 + (if v.getLsbD (n - 1) then -((1 : Word) <<< n) else 0)

/-- R80, the spec's own choice D4: a bit its class does not examine changes nothing but the immediate or register fields it
belongs to. -/
def Obligations.UnexaminedBitsChooseNothing : Prop :=
  ∀ w v : Word, opcodeOf w = opcodeOf v → Sys2Proof.Claims.examined w = Sys2Proof.Claims.examined v →
    decodeRecord w =
      { decodeRecord v with
        rd := (decodeRecord w).rd
        rs1 := (decodeRecord w).rs1
        rs2 := (decodeRecord w).rs2
        imm := (decodeRecord w).imm
        csrIdx := (decodeRecord w).csrIdx }

/-- A sanity check of the decoder on words of 95_test_vectors.md (V1, V8, V9 are the source's own): one or more of each of the
twelve opcode classes and of the default. -/
def Obligations.WorkedWordsDecode : Prop :=
  decodeWord 0x00500093#32 = .addi 1 0 5 ∧ decodeWord 0xFE000EE3#32 = .beq 0 0 (-4) ∧
    decodeWord 0x008000EF#32 = .jal 1 8 ∧ decodeWord 0x00008067#32 = .jalr 0 1 0 ∧
    decodeWord 0x12345037#32 = .lui 0 0x12345000 ∧
    decodeWord 0x43F45393#32 = .srai 7 8 31 ∧ decodeWord 0x403100B3#32 = .sub 1 2 3 ∧
    decodeWord 0x02208033#32 = .add 0 1 2 ∧ decodeWord 0x00001097#32 = .auipc 1 0x1000 ∧
    decodeWord 0x80732023#32 = .sw 6 7 (-2048) ∧ decodeWord 0x00832283#32 = .lw 5 6 8 ∧
    decodeWord 0x34029073#32 = .csrrwRd0 5 0x340 ∧ decodeWord 0x34002373#32 = .csrrsRs10 6 0x340 ∧
    decodeWord 0x00000073#32 = .ecall ∧ decodeWord 0x0FF0000F#32 = .miscMem ∧
    decodeWord 0x100322AF#32 = .amo ∧ decodeWord 0xFFFFFFFF#32 = .unrecognized

/-- Every instruction is one 32-bit word (R60), its bytes in the order of R43 (the spec's own choice D10). -/
def Obligations.BytesOfAnInstructionDecode : Prop :=
  (∀ (i : Instr) (rest : List Byte), i.wf = true → decode (bytesOfWord (encode i) ++ rest) = .ok (i, rest)) ∧
    (∀ bs : List Byte, bs.length < 4 → decode bs = .error .truncated)

/-- The opcode table (R86) and the decoder by fields (R73 to R80) agree on every word. -/
def Obligations.FirstTableRowIsTheDecodedInstruction : Prop :=
  ∀ w : Word, (firstRow w).map OpcodeRow.mnemonic = some (decodeWord w).mnemonic

/-- The word-to-record decode of R105 (dispatch, handler, normalization) and the decoder through `Instr` agree on every word. -/
def Obligations.HandlersAgreeWithTheDecoder : Prop :=
  ∀ w : Word, decodeRecord w = recordOf (decodeWord w)

/-- R73 and R74. That the hardware's table is fixed is the spec's own choice D24. -/
def Obligations.DispatchIsTotalAndFixed : Prop :=
  (dispatch 0x03#7 = .load ∧ dispatch 0x0F#7 = .miscMem ∧ dispatch 0x13#7 = .opImm ∧ dispatch 0x17#7 = .auipc ∧
      dispatch 0x23#7 = .store ∧ dispatch 0x2F#7 = .amo ∧ dispatch 0x33#7 = .op ∧ dispatch 0x37#7 = .lui ∧
      dispatch 0x63#7 = .branch ∧ dispatch 0x67#7 = .jalr ∧ dispatch 0x6F#7 = .jal ∧ dispatch 0x73#7 = .system) ∧
    ((List.range 128).filter fun n => dispatch (BitVec.ofNat 7 n) = .default).length = 116 ∧
    (∀ w : Word, dispatch (opcodeOf w) = .default →
      decodeWord w = .unrecognized ∧ (decodeRecord w).kind = .unsupported ∧ (decodeRecord w).aluOp = .none ∧
        (decodeRecord w).brCond = .never)

/-- The registry of R75: "idempotent; last registration for a given opcode wins". That a registry with no default still
answers a registered opcode, as the first clause says of every registry, and that only an opcode that is not registered is then
the fatal case of R264, is the model's choice (log entry 19). -/
def Obligations.LastRegistrationWins : Prop :=
  (∀ (r : Registry) (op : Opcode) (h : OpClass), (r.register op h).dispatch op = some h) ∧
    (∀ (r : Registry) (op q : Opcode) (h : OpClass), q ≠ op → (r.register op h).dispatch q = r.dispatch q) ∧
    (∀ (r : Registry) (op : Opcode) (h : OpClass), (r.register op h).register op h = r.register op h) ∧
    (∀ (r : Registry) (op : Opcode), (∀ e ∈ r.entries, e.1 ≠ op) → r.default = none → r.dispatch op = none)

/-- Normalization (R106), on the decode of every word. -/
def Obligations.DestinationZeroIsNormalized : Prop :=
  ∀ w : Word,
    (decodeRecord w).rd ≠ some 0#5 ∧
    (decodeRecord w).rd =
      (if (handle (dispatch (opcodeOf w)) w (immediates w)).rd = some 0#5 then none
        else (handle (dispatch (opcodeOf w)) w (immediates w)).rd) ∧
    decodeRecord w = { handle (dispatch (opcodeOf w)) w (immediates w) with rd := (decodeRecord w).rd }

/-- R130 to R136 in integers and bits. -/
def Obligations.AluArithmeticLogicAndComparison : Prop :=
  (∀ a b : Word,
      (alu .add a b).toNat = (a.toNat + b.toNat) % 4294967296 ∧
      ((alu .sub a b).toNat : Int) = ((a.toNat : Int) - b.toNat) % 4294967296 ∧
      (∀ i, (alu .and a b).getLsbD i = (a.getLsbD i && b.getLsbD i) ∧
        (alu .or a b).getLsbD i = (a.getLsbD i || b.getLsbD i) ∧
        (alu .xor a b).getLsbD i = xor (a.getLsbD i) (b.getLsbD i)) ∧
      (alu .slt a b).toNat = (if a.toInt < b.toInt then 1 else 0) ∧
      (alu .sltu a b).toNat = (if a.toNat < b.toNat then 1 else 0)) ∧
    alu .add 0xFFFFFFFF#32 1#32 = 0#32 ∧ alu .sub 0#32 1#32 = 0xFFFFFFFF#32

/-- R137 to R139 in integers (property 7 of 95_test_vectors.md is the last clause of the first part). `/` on Int with a positive
divisor rounds toward minus infinity. -/
def Obligations.AluShifts : Prop :=
  (∀ a b : Word,
      (alu .sll a b).toNat = a.toNat * 2 ^ (b.toNat % 32) % 4294967296 ∧
      (alu .srl a b).toNat = a.toNat / 2 ^ (b.toNat % 32) ∧
      (alu .sra a b).toInt = a.toInt / 2 ^ (b.toNat % 32) ∧
      (a.getLsbD 31 = false → alu .sra a b = alu .srl a b)) ∧
    alu .sll 1#32 33#32 = 2#32 ∧ alu .srl 0x80000000#32 4#32 = 0x08000000#32 ∧
    alu .sra 0x80000000#32 4#32 = 0xF8000000#32

/-- The table of R180. -/
def Obligations.BranchConditions : Prop :=
  ∀ a b : Word,
    (evalCond .eq a b = true ↔ a = b) ∧ (evalCond .ne a b = true ↔ a ≠ b) ∧
    (evalCond .lt a b = true ↔ a.toInt < b.toInt) ∧ (evalCond .ge a b = true ↔ b.toInt ≤ a.toInt) ∧
    (evalCond .ltu a b = true ↔ a.toNat < b.toNat) ∧ (evalCond .geu a b = true ↔ b.toNat ≤ a.toNat) ∧
    evalCond .always a b = true ∧ evalCond .never a b = false

/-- R108 to R110 on the record whose operands R107 has bound. The value 0 where the gate is shut, and ALU(None) = 0, are the spec's
own choice D20. That a record of kind Auipc without an immediate adds 0 is the model's choice (log entry 14); none is decoded. -/
def Obligations.ExecutePhaseResults : Prop :=
  (∀ a b : Word, alu .none a b = 0#32) ∧
    ∀ (d : Decoded) (s : State),
      (∀ r v, d.rs1 = some r → d.imm = some v → aluOut (d.bind s) = alu d.aluOp (s.getReg r) v) ∧
      (∀ r q, d.rs1 = some r → d.imm = none → d.rs2 = some q →
        aluOut (d.bind s) = alu d.aluOp (s.getReg r) (s.getReg q)) ∧
      (d.rs1 = none ∨ (d.rs2 = none ∧ d.imm = none) → aluOut (d.bind s) = 0) ∧
      ((d.kind = .load ∨ d.kind = .store) → (executed d s).addr = some (aluOut (d.bind s))) ∧
      (d.kind ≠ .load → d.kind ≠ .store → (executed d s).addr = none) ∧
      (d.kind = .csrRead → (executed d s).result = (readCsr d s.csr).1) ∧
      (d.kind = .csrWrite → (executed d s).result = readSource s d.rs1) ∧
      (d.kind = .store → (executed d s).result = readSource s d.rs2) ∧
      (d.kind = .jump ∨ d.kind = .jumpRegister → (executed d s).result = s.pc + 4) ∧
      (∀ v, d.kind = .auipc → d.imm = some v → (executed d s).result = s.pc + v) ∧
      (d.kind ∈ [Kind.alu, .load, .branch, .system, .unsupported] → (executed d s).result = aluOut (d.bind s))

/-- R142 to R147: the row, and the effect on every state. `setReg` writes nothing for x0; `retire` is the end of every completed
step (R116, R118). The rows' bit values are the spec's (marked there as general knowledge, G2, G3). -/
def Obligations.OpImmArithmeticResults : Prop :=
  (∀ w : Word, w &&& 0x0000707F#32 = 0x00000013#32 → decodeWord w = .addi (rdOf w) (rs1Of w) (immI w)) ∧
    (∀ (rd rs1 : RegId) (imm : Word) (s : State), exec (.addi rd rs1 imm) s = .next ((s.setReg rd (s.getReg rs1 + imm)).retire (s.pc + 4))) ∧
    (∀ w : Word, w &&& 0x0000707F#32 = 0x00002013#32 → decodeWord w = .slti (rdOf w) (rs1Of w) (immI w)) ∧
    (∀ (rd rs1 : RegId) (imm : Word) (s : State), exec (.slti rd rs1 imm) s = .next ((s.setReg rd (if (s.getReg rs1).toInt < imm.toInt then 1 else 0)).retire (s.pc + 4))) ∧
    (∀ w : Word, w &&& 0x0000707F#32 = 0x00003013#32 → decodeWord w = .sltiu (rdOf w) (rs1Of w) (immI w)) ∧
    (∀ (rd rs1 : RegId) (imm : Word) (s : State), exec (.sltiu rd rs1 imm) s = .next ((s.setReg rd (if (s.getReg rs1).toNat < imm.toNat then 1 else 0)).retire (s.pc + 4))) ∧
    (∀ w : Word, w &&& 0x0000707F#32 = 0x00004013#32 → decodeWord w = .xori (rdOf w) (rs1Of w) (immI w)) ∧
    (∀ (rd rs1 : RegId) (imm : Word) (s : State), exec (.xori rd rs1 imm) s = .next ((s.setReg rd (s.getReg rs1 ^^^ imm)).retire (s.pc + 4))) ∧
    (∀ w : Word, w &&& 0x0000707F#32 = 0x00006013#32 → decodeWord w = .ori (rdOf w) (rs1Of w) (immI w)) ∧
    (∀ (rd rs1 : RegId) (imm : Word) (s : State), exec (.ori rd rs1 imm) s = .next ((s.setReg rd (s.getReg rs1 ||| imm)).retire (s.pc + 4))) ∧
    (∀ w : Word, w &&& 0x0000707F#32 = 0x00007013#32 → decodeWord w = .andi (rdOf w) (rs1Of w) (immI w)) ∧
    (∀ (rd rs1 : RegId) (imm : Word) (s : State), exec (.andi rd rs1 imm) s = .next ((s.setReg rd (s.getReg rs1 &&& imm)).retire (s.pc + 4)))

/-- R148 to R150: the row, the shift amount, and the effect on every state. -/
def Obligations.OpImmShiftResults : Prop :=
  (∀ w : Word, w &&& 0x0000707F#32 = 0x00001013#32 → decodeWord w = .slli (rdOf w) (rs1Of w) (immI w)) ∧
    (∀ w : Word, w &&& 0x4000707F#32 = 0x00005013#32 → decodeWord w = .srli (rdOf w) (rs1Of w) (immShamt w)) ∧
    (∀ w : Word, w &&& 0x4000707F#32 = 0x40005013#32 → decodeWord w = .srai (rdOf w) (rs1Of w) (immShamt w)) ∧
    (∀ w : Word, (immI w).toNat % 32 = w.toNat / 2 ^ 20 % 32 ∧ (immShamt w).toNat = w.toNat / 2 ^ 20 % 32) ∧
    (∀ (rd rs1 : RegId) (imm : Word) (s : State), exec (.slli rd rs1 imm) s = .next ((s.setReg rd (s.getReg rs1 <<< (imm.toNat % 32))).retire (s.pc + 4))) ∧
    (∀ (rd rs1 : RegId) (imm : Word) (s : State), exec (.srli rd rs1 imm) s = .next ((s.setReg rd (s.getReg rs1 >>> (imm.toNat % 32))).retire (s.pc + 4))) ∧
    (∀ (rd rs1 : RegId) (imm : Word) (s : State), exec (.srai rd rs1 imm) s = .next ((s.setReg rd ((s.getReg rs1).sshiftRight (imm.toNat % 32))).retire (s.pc + 4)))

/-- R152 to R156, R158, R159: the row, and the effect on every state. -/
def Obligations.OpArithmeticAndShiftResults : Prop :=
  (∀ w : Word, w &&& 0x4000707F#32 = 0x00000033#32 → decodeWord w = .add (rdOf w) (rs1Of w) (rs2Of w)) ∧
    (∀ (rd rs1 rs2 : RegId) (s : State), exec (.add rd rs1 rs2) s = .next ((s.setReg rd (s.getReg rs1 + s.getReg rs2)).retire (s.pc + 4))) ∧
    (∀ w : Word, w &&& 0x4000707F#32 = 0x40000033#32 → decodeWord w = .sub (rdOf w) (rs1Of w) (rs2Of w)) ∧
    (∀ (rd rs1 rs2 : RegId) (s : State), exec (.sub rd rs1 rs2) s = .next ((s.setReg rd (s.getReg rs1 - s.getReg rs2)).retire (s.pc + 4))) ∧
    (∀ w : Word, w &&& 0x0000707F#32 = 0x00002033#32 → decodeWord w = .slt (rdOf w) (rs1Of w) (rs2Of w)) ∧
    (∀ (rd rs1 rs2 : RegId) (s : State), exec (.slt rd rs1 rs2) s = .next ((s.setReg rd (if (s.getReg rs1).toInt < (s.getReg rs2).toInt then 1 else 0)).retire (s.pc + 4))) ∧
    (∀ w : Word, w &&& 0x0000707F#32 = 0x00003033#32 → decodeWord w = .sltu (rdOf w) (rs1Of w) (rs2Of w)) ∧
    (∀ (rd rs1 rs2 : RegId) (s : State), exec (.sltu rd rs1 rs2) s = .next ((s.setReg rd (if (s.getReg rs1).toNat < (s.getReg rs2).toNat then 1 else 0)).retire (s.pc + 4))) ∧
    (∀ w : Word, w &&& 0x0000707F#32 = 0x00001033#32 → decodeWord w = .sll (rdOf w) (rs1Of w) (rs2Of w)) ∧
    (∀ (rd rs1 rs2 : RegId) (s : State), exec (.sll rd rs1 rs2) s = .next ((s.setReg rd (s.getReg rs1 <<< ((s.getReg rs2).toNat % 32))).retire (s.pc + 4))) ∧
    (∀ w : Word, w &&& 0x4000707F#32 = 0x00005033#32 → decodeWord w = .srl (rdOf w) (rs1Of w) (rs2Of w)) ∧
    (∀ (rd rs1 rs2 : RegId) (s : State), exec (.srl rd rs1 rs2) s = .next ((s.setReg rd (s.getReg rs1 >>> ((s.getReg rs2).toNat % 32))).retire (s.pc + 4))) ∧
    (∀ w : Word, w &&& 0x4000707F#32 = 0x40005033#32 → decodeWord w = .sra (rdOf w) (rs1Of w) (rs2Of w)) ∧
    (∀ (rd rs1 rs2 : RegId) (s : State), exec (.sra rd rs1 rs2) s = .next ((s.setReg rd ((s.getReg rs1).sshiftRight ((s.getReg rs2).toNat % 32))).retire (s.pc + 4)))

/-- R157, R160, R161: the row, and the effect on every state. -/
def Obligations.OpBitwiseResults : Prop :=
  (∀ w : Word, w &&& 0x0000707F#32 = 0x00004033#32 → decodeWord w = .xor (rdOf w) (rs1Of w) (rs2Of w)) ∧
    (∀ (rd rs1 rs2 : RegId) (s : State), exec (.xor rd rs1 rs2) s = .next ((s.setReg rd (s.getReg rs1 ^^^ s.getReg rs2)).retire (s.pc + 4))) ∧
    (∀ w : Word, w &&& 0x0000707F#32 = 0x00006033#32 → decodeWord w = .or (rdOf w) (rs1Of w) (rs2Of w)) ∧
    (∀ (rd rs1 rs2 : RegId) (s : State), exec (.or rd rs1 rs2) s = .next ((s.setReg rd (s.getReg rs1 ||| s.getReg rs2)).retire (s.pc + 4))) ∧
    (∀ w : Word, w &&& 0x0000707F#32 = 0x00007033#32 → decodeWord w = .and (rdOf w) (rs1Of w) (rs2Of w)) ∧
    (∀ (rd rs1 rs2 : RegId) (s : State), exec (.and rd rs1 rs2) s = .next ((s.setReg rd (s.getReg rs1 &&& s.getReg rs2)).retire (s.pc + 4)))

/-- R162, R163: the row, the handler's fields (rd after R106), and the effect on every state. -/
def Obligations.UpperImmediateResults : Prop :=
  (∀ w : Word, w &&& 0x0000007F#32 = 0x00000037#32 → decodeWord w = .lui (rdOf w) (immU w)) ∧
    (∀ (rd : RegId) (imm : Word), (recordOf (.lui rd imm)).kind = .alu ∧ (recordOf (.lui rd imm)).aluOp = .add ∧
      (recordOf (.lui rd imm)).rs1 = some 0#5 ∧ (recordOf (.lui rd imm)).imm = some imm ∧
      (recordOf (.lui rd imm)).rd = if rd = 0#5 then none else some rd) ∧
    (∀ (rd : RegId) (imm : Word) (s : State), exec (.lui rd imm) s = .next ((s.setReg rd (imm)).retire (s.pc + 4))) ∧
    (∀ w : Word, w &&& 0x0000007F#32 = 0x00000017#32 → decodeWord w = .auipc (rdOf w) (immU w)) ∧
    (∀ (rd : RegId) (imm : Word) (s : State), (recordOf (.auipc rd imm)).kind = .auipc ∧
      (recordOf (.auipc rd imm)).rd = (if rd = 0#5 then none else some rd) ∧
      (recordOf (.auipc rd imm)).imm = some imm ∧ (recordOf (.auipc rd imm)).rs1 = none ∧
      (recordOf (.auipc rd imm)).rs2 = none ∧ aluOut ((recordOf (.auipc rd imm)).bind s) = 0) ∧
    (∀ (rd : RegId) (imm : Word) (s : State), exec (.auipc rd imm) s = .next ((s.setReg rd (s.pc + imm)).retire (s.pc + 4))) ∧
    (∀ w : Word, (immU w).toNat % 4096 = 0 ∧ ((immU w).getLsbD 31 = true ↔ 0x80000 ≤ w.toNat / 2 ^ 12))

/-- R182, R183: the row, the handler's fields (rd after R106), and the effect on every state, whatever the target's low bits. -/
def Obligations.JumpResults : Prop :=
  (∀ (rd : RegId) (imm : Word), (recordOf (.jal rd imm)).kind = .jump ∧ (recordOf (.jal rd imm)).brCond = .always ∧
      (recordOf (.jal rd imm)).rd = (if rd = 0#5 then none else some rd) ∧ (recordOf (.jal rd imm)).imm = some imm ∧
      (recordOf (.jal rd imm)).rs1 = none ∧ (recordOf (.jal rd imm)).rs2 = none ∧ (recordOf (.jal rd imm)).aluOp = .none) ∧
    (∀ (rd rs1 : RegId) (imm : Word), (recordOf (.jalr rd rs1 imm)).kind = .jumpRegister ∧
      (recordOf (.jalr rd rs1 imm)).brCond = .always ∧
      (recordOf (.jalr rd rs1 imm)).rd = (if rd = 0#5 then none else some rd) ∧
      (recordOf (.jalr rd rs1 imm)).rs1 = some rs1 ∧ (recordOf (.jalr rd rs1 imm)).imm = some imm ∧
      (recordOf (.jalr rd rs1 imm)).rs2 = none ∧ (recordOf (.jalr rd rs1 imm)).aluOp = .none) ∧
    (∀ w : Word, w &&& 0x0000007F#32 = 0x0000006F#32 → decodeWord w = .jal (rdOf w) (immJ w)) ∧
    (∀ (rd : RegId) (imm : Word) (s : State), exec (.jal rd imm) s = .next ((s.setReg rd (s.pc + 4)).retire (s.pc + imm))) ∧
    (∀ w : Word, w &&& 0x0000007F#32 = 0x00000067#32 → decodeWord w = .jalr (rdOf w) (rs1Of w) (immI w)) ∧
    (∀ (rd rs1 : RegId) (imm : Word) (s : State),
      exec (.jalr rd rs1 imm) s = .next ((s.setReg rd (s.pc + 4)).retire (s.getReg rs1 + imm)))

/-- R185 to R190: the row, and the effect on every state. -/
def Obligations.BranchResults : Prop :=
  (∀ w : Word, w &&& 0x0000707F#32 = 0x00000063#32 → decodeWord w = .beq (rs1Of w) (rs2Of w) (immB w)) ∧
    (∀ (rs1 rs2 : RegId) (imm : Word) (s : State),
      exec (.beq rs1 rs2 imm) s = .next (s.retire (if s.getReg rs1 = s.getReg rs2 then s.pc + imm else s.pc + 4))) ∧
    (∀ w : Word, w &&& 0x0000707F#32 = 0x00001063#32 → decodeWord w = .bne (rs1Of w) (rs2Of w) (immB w)) ∧
    (∀ (rs1 rs2 : RegId) (imm : Word) (s : State),
      exec (.bne rs1 rs2 imm) s = .next (s.retire (if s.getReg rs1 ≠ s.getReg rs2 then s.pc + imm else s.pc + 4))) ∧
    (∀ w : Word, w &&& 0x0000707F#32 = 0x00004063#32 → decodeWord w = .blt (rs1Of w) (rs2Of w) (immB w)) ∧
    (∀ (rs1 rs2 : RegId) (imm : Word) (s : State),
      exec (.blt rs1 rs2 imm) s = .next (s.retire (if (s.getReg rs1).toInt < (s.getReg rs2).toInt then s.pc + imm else s.pc + 4))) ∧
    (∀ w : Word, w &&& 0x0000707F#32 = 0x00005063#32 → decodeWord w = .bge (rs1Of w) (rs2Of w) (immB w)) ∧
    (∀ (rs1 rs2 : RegId) (imm : Word) (s : State),
      exec (.bge rs1 rs2 imm) s = .next (s.retire (if (s.getReg rs2).toInt ≤ (s.getReg rs1).toInt then s.pc + imm else s.pc + 4))) ∧
    (∀ w : Word, w &&& 0x0000707F#32 = 0x00006063#32 → decodeWord w = .bltu (rs1Of w) (rs2Of w) (immB w)) ∧
    (∀ (rs1 rs2 : RegId) (imm : Word) (s : State),
      exec (.bltu rs1 rs2 imm) s = .next (s.retire (if (s.getReg rs1).toNat < (s.getReg rs2).toNat then s.pc + imm else s.pc + 4))) ∧
    (∀ w : Word, w &&& 0x0000707F#32 = 0x00007063#32 → decodeWord w = .bgeu (rs1Of w) (rs2Of w) (immB w)) ∧
    (∀ (rs1 rs2 : RegId) (imm : Word) (s : State),
      exec (.bgeu rs1 rs2 imm) s = .next (s.retire (if (s.getReg rs2).toNat ≤ (s.getReg rs1).toNat then s.pc + imm else s.pc + 4)))

/-- R191, the spec's own choice D6: condition Never. -/
def Obligations.UnassignedBranchIsNotTaken : Prop :=
  (∀ w : Word, w &&& 0x0000607F#32 = 0x00002063#32 → decodeWord w = .branchF301x (rs1Of w) (rs2Of w) (immB w)) ∧
    (∀ (rs1 rs2 : RegId) (imm : Word) (s : State), s.params.refuseUnsupported = false →
      exec (.branchF301x rs1 rs2 imm) s = .next (s.retire (s.pc + 4)))

/-- R211, R216. That the loaded word goes to rd, and is read for rd = x0 too, is the spec's own choice D9; when the access
succeeds rests on D12, D13; that the four bytes under split lie modulo 2^32 and must all be mapped is the model's choice (log
entry 11). -/
def Obligations.LoadWordResult : Prop :=
  (∀ w : Word, w &&& 0x0000707F#32 = 0x00002003#32 → decodeWord w = .lw (rdOf w) (rs1Of w) (immI w)) ∧
    (∀ (rd rs1 : RegId) (imm : Word) (s : State),
      ((s.getReg rs1 + imm).toNat % 4 = 0 ∨ s.params.misalignedDataPolicy = .split) →
      wordInMap s.params.memMap (s.getReg rs1 + imm) = true →
      exec (.lw rd rs1 imm) s = .next ((s.setReg rd (s.mem.readWord (s.getReg rs1 + imm))).retire (s.pc + 4)))

/-- R214, R216. When the access succeeds rests on D12, D13; that the four bytes under split lie modulo 2^32 and must all be
mapped is the model's choice (log entry 11). -/
def Obligations.StoreWordResult : Prop :=
  (∀ w : Word, w &&& 0x0000707F#32 = 0x00002023#32 → decodeWord w = .sw (rs1Of w) (rs2Of w) (immS w)) ∧
    (∀ (rs1 rs2 : RegId) (imm : Word) (s : State),
      ((s.getReg rs1 + imm).toNat % 4 = 0 ∨ s.params.misalignedDataPolicy = .split) →
      wordInMap s.params.memMap (s.getReg rs1 + imm) = true →
      exec (.sw rs1 rs2 imm) s =
        .next (State.retire { s with mem := s.mem.writeWord (s.getReg rs1 + imm) (s.getReg rs2) } (s.pc + 4)))

/-- R46, R49 and the order of R263 (the spec's own choices D12, D13, D28). A fault has no next state. That an access
under split needs all its four bytes, modulo 2^32, and faults with the address a is the model's choice (log entry 11). -/
def Obligations.DataAccessFaults : Prop :=
  ∀ (r rs1 : RegId) (imm : Word) (s : State),
    ((s.getReg rs1 + imm).toNat % 4 ≠ 0 → s.params.misalignedDataPolicy = .fault →
      exec (.lw r rs1 imm) s = .fault (.dataMisaligned (s.getReg rs1 + imm)) ∧
      exec (.sw rs1 r imm) s = .fault (.dataMisaligned (s.getReg rs1 + imm))) ∧
    (((s.getReg rs1 + imm).toNat % 4 = 0 ∨ s.params.misalignedDataPolicy = .split) →
      wordInMap s.params.memMap (s.getReg rs1 + imm) = false →
      exec (.lw r rs1 imm) s = .fault (.accessFault (s.getReg rs1 + imm)) ∧
      exec (.sw rs1 r imm) s = .fault (.accessFault (s.getReg rs1 + imm)))

/-- R230 to R232, for every collaborator; the last clause names the plain one of D15. What is read and written when is the
spec's own choice D16. -/
def Obligations.CsrPatternResults : Prop :=
  (∀ w : Word, w &&& 0x00007FFF#32 = 0x00001073#32 → decodeWord w = .csrrwRd0 (rs1Of w) (csrOf w)) ∧
    (∀ (rs1 : RegId) (c : CsrIndex) (s : State), exec (.csrrwRd0 rs1 c) s =
      .next (State.retire { s with csr := (s.csr.read c).2.write c (s.getReg rs1) } (s.pc + 4))) ∧
    (∀ w : Word, w &&& 0x000FF07F#32 = 0x00002073#32 → decodeWord w = .csrrsRs10 (rdOf w) (csrOf w)) ∧
    (∀ (rd : RegId) (c : CsrIndex) (s : State), exec (.csrrsRs10 rd c) s =
      .next ((State.setReg { s with csr := (s.csr.read c).2 } rd (s.csr.read c).1).retire (s.pc + 4))) ∧
    (∀ (rs1 : RegId) (c b : CsrIndex) (s t : State) (cells : List (Nat × Word)) (n : Nat), s.csr = .plain cells n →
      exec (.csrrwRd0 rs1 c) s = .next t →
      (t.csr.read b).1 = if b = c then s.getReg rs1 else (s.csr.read b).1)

/-- R212, the spec's own choice D7 (conflict C1). -/
def Obligations.UnsupportedLoadsHaveNoEffect : Prop :=
  (∀ w : Word, w &&& 0x0000707F#32 = 0x00000003#32 → decodeWord w = .lb (rdOf w) (rs1Of w) (immI w)) ∧
    (∀ w : Word, w &&& 0x0000707F#32 = 0x00001003#32 → decodeWord w = .lh (rdOf w) (rs1Of w) (immI w)) ∧
    (∀ w : Word, w &&& 0x0000707F#32 = 0x00003003#32 → decodeWord w = .loadF3011 (rdOf w) (rs1Of w) (immI w)) ∧
    (∀ w : Word, w &&& 0x0000707F#32 = 0x00004003#32 → decodeWord w = .lbu (rdOf w) (rs1Of w) (immI w)) ∧
    (∀ w : Word, w &&& 0x0000707F#32 = 0x00005003#32 → decodeWord w = .lhu (rdOf w) (rs1Of w) (immI w)) ∧
    (∀ w : Word, w &&& 0x0000707F#32 = 0x00006003#32 → decodeWord w = .loadF3110 (rdOf w) (rs1Of w) (immI w)) ∧
    (∀ w : Word, w &&& 0x0000707F#32 = 0x00007003#32 → decodeWord w = .loadF3111 (rdOf w) (rs1Of w) (immI w)) ∧
    (∀ (rd rs1 : RegId) (imm : Word) (s : State), s.params.refuseUnsupported = false →
    exec (.lb rd rs1 imm) s = .next (s.retire (s.pc + 4)) ∧
    exec (.lh rd rs1 imm) s = .next (s.retire (s.pc + 4)) ∧
    exec (.loadF3011 rd rs1 imm) s = .next (s.retire (s.pc + 4)) ∧
    exec (.lbu rd rs1 imm) s = .next (s.retire (s.pc + 4)) ∧
    exec (.lhu rd rs1 imm) s = .next (s.retire (s.pc + 4)) ∧
    exec (.loadF3110 rd rs1 imm) s = .next (s.retire (s.pc + 4)) ∧
    exec (.loadF3111 rd rs1 imm) s = .next (s.retire (s.pc + 4)))

/-- R215, the spec's own choice D7. -/
def Obligations.UnsupportedStoresHaveNoEffect : Prop :=
  (∀ w : Word, w &&& 0x0000707F#32 = 0x00000023#32 → decodeWord w = .sb (rs1Of w) (rs2Of w) (immS w)) ∧
    (∀ w : Word, w &&& 0x0000707F#32 = 0x00001023#32 → decodeWord w = .sh (rs1Of w) (rs2Of w) (immS w)) ∧
    (∀ w : Word, w &&& 0x0000707F#32 = 0x00003023#32 → decodeWord w = .storeF3011 (rs1Of w) (rs2Of w) (immS w)) ∧
    (∀ w : Word, w &&& 0x0000407F#32 = 0x00004023#32 → decodeWord w = .storeF31xx (rs1Of w) (rs2Of w) (immS w)) ∧
    (∀ (rs1 rs2 : RegId) (imm : Word) (s : State), s.params.refuseUnsupported = false →
    exec (.sb rs1 rs2 imm) s = .next (s.retire (s.pc + 4)) ∧
    exec (.sh rs1 rs2 imm) s = .next (s.retire (s.pc + 4)) ∧
    exec (.storeF3011 rs1 rs2 imm) s = .next (s.retire (s.pc + 4)) ∧
    exec (.storeF31xx rs1 rs2 imm) s = .next (s.retire (s.pc + 4)))

/-- R233, the spec's own choice D8; R260, R266: there is no trap to take and none to return from. -/
def Obligations.NamedSystemWordsHaveNoEffect : Prop :=
  decodeWord 0x00000073#32 = .ecall ∧
    decodeWord 0x00100073#32 = .ebreak ∧
    decodeWord 0x30200073#32 = .mret ∧
    decodeWord 0x10200073#32 = .sret ∧
    decodeWord 0x10500073#32 = .wfi ∧
    (∀ (s : State), s.params.refuseUnsupported = false →
    exec (.ecall) s = .next (s.retire (s.pc + 4)) ∧
    exec (.ebreak) s = .next (s.retire (s.pc + 4)) ∧
    exec (.mret) s = .next (s.retire (s.pc + 4)) ∧
    exec (.sret) s = .next (s.retire (s.pc + 4)) ∧
    exec (.wfi) s = .next (s.retire (s.pc + 4)))

/-- R233, the spec's own choice D8. -/
def Obligations.OtherSystemWordsHaveNoEffect : Prop :=
  (∀ w : Word, w &&& 0x0000707F#32 = 0x00001073#32 → rdOf w ≠ 0#5 → decodeWord w = .csrrw (rdOf w) (rs1Of w) (csrOf w)) ∧
    (∀ w : Word, w &&& 0x0000707F#32 = 0x00002073#32 → rs1Of w ≠ 0#5 → decodeWord w = .csrrs (rdOf w) (rs1Of w) (csrOf w)) ∧
    (∀ w : Word, w &&& 0x0000707F#32 = 0x00003073#32 → decodeWord w = .csrrc (rdOf w) (rs1Of w) (csrOf w)) ∧
    (∀ w : Word, w &&& 0x0000707F#32 = 0x00005073#32 → decodeWord w = .csrrwi (rdOf w) (rs1Of w) (csrOf w)) ∧
    (∀ w : Word, w &&& 0x0000707F#32 = 0x00006073#32 → decodeWord w = .csrrsi (rdOf w) (rs1Of w) (csrOf w)) ∧
    (∀ w : Word, w &&& 0x0000707F#32 = 0x00007073#32 → decodeWord w = .csrrci (rdOf w) (rs1Of w) (csrOf w)) ∧
    (∀ w : Word, opcodeOf w = 0x73#7 → funct3Of w = 4#3 → decodeWord w = .systemOther (rdOf w) (rs1Of w) (csrOf w)) ∧
    (∀ w : Word, opcodeOf w = 0x73#7 → funct3Of w = 0#3 →
      w ∉ [0x00000073#32, 0x00100073#32, 0x30200073#32, 0x10200073#32, 0x10500073#32] →
      decodeWord w = .systemOther (rdOf w) (rs1Of w) (csrOf w)) ∧
    (∀ (rd rs1 : RegId) (csr : CsrIndex) (s : State), s.params.refuseUnsupported = false →
    exec (.csrrw rd rs1 csr) s = .next (s.retire (s.pc + 4)) ∧
    exec (.csrrs rd rs1 csr) s = .next (s.retire (s.pc + 4)) ∧
    exec (.csrrc rd rs1 csr) s = .next (s.retire (s.pc + 4)) ∧
    exec (.csrrwi rd rs1 csr) s = .next (s.retire (s.pc + 4)) ∧
    exec (.csrrsi rd rs1 csr) s = .next (s.retire (s.pc + 4)) ∧
    exec (.csrrci rd rs1 csr) s = .next (s.retire (s.pc + 4)) ∧
    exec (.systemOther rd rs1 csr) s = .next (s.retire (s.pc + 4)))

/-- R234 to R236. -/
def Obligations.FenceAtomicAndDefaultHaveNoEffect : Prop :=
  (∀ w : Word, w &&& 0x0000007F#32 = 0x0000000F#32 → decodeWord w = .miscMem) ∧
    (∀ w : Word, w &&& 0x0000007F#32 = 0x0000002F#32 → decodeWord w = .amo) ∧
    (∀ (s : State), s.params.refuseUnsupported = false →
    exec (.miscMem) s = .next (s.retire (s.pc + 4)) ∧
    exec (.amo) s = .next (s.retire (s.pc + 4)) ∧
    exec (.unrecognized) s = .next (s.retire (s.pc + 4)))

/-- R120, the spec's own choice D30. -/
def Obligations.StrictModeRefusesNoOps : Prop :=
  ∀ (i : Instr) (s : State),
    (((recordOf i).kind = .unsupported ∨ (recordOf i).kind = .system ∨
        ((recordOf i).kind = .branch ∧ (recordOf i).brCond = .never)) →
      s.params.refuseUnsupported = true → exec i s = .refused (.noOpRefused (recordOf i).kind)) ∧
    (¬((recordOf i).kind = .unsupported ∨ (recordOf i).kind = .system ∨
        ((recordOf i).kind = .branch ∧ (recordOf i).brCond = .never)) →
      (∀ t, exec i { s with params := { s.params with refuseUnsupported := false } } = .next t →
        exec i { s with params := { s.params with refuseUnsupported := true } } =
          .next { t with params := { s.params with refuseUnsupported := true } }) ∧
      (∀ f, exec i { s with params := { s.params with refuseUnsupported := false } } = .fault f →
        exec i { s with params := { s.params with refuseUnsupported := true } } = .fault f))

/-- What the register-writing instructions leave unchanged (R112, R115, R27, R31). There are no flags (R28). -/
def Obligations.ComputationFrame : Prop :=
  ∀ (rd rs1 rs2 : RegId) (imm : Word) (s t : State),
    ∀ i ∈ [Instr.addi rd rs1 imm, .slti rd rs1 imm, .sltiu rd rs1 imm, .xori rd rs1 imm, .ori rd rs1 imm, .andi rd rs1 imm, .slli rd rs1 imm, .srai rd rs1 imm, .srli rd rs1 imm, .sub rd rs1 rs2, .add rd rs1 rs2, .sll rd rs1 rs2, .slt rd rs1 rs2, .sltu rd rs1 rs2, .xor rd rs1 rs2, .sra rd rs1 rs2, .srl rd rs1 rs2, .or rd rs1 rs2, .and rd rs1 rs2, .lui rd imm, .auipc rd imm, .jal rd imm, .jalr rd rs1 imm],
      exec i s = .next t →
      (∀ q, q ≠ rd → t.getReg q = s.getReg q) ∧ t.getReg 0#5 = 0 ∧
      (∀ a, t.mem.readByte a = s.mem.readByte a) ∧ t.params = s.params ∧
      t.csr = s.csr.instructionExecuted.getMessage.2

/-- What LW and CSRRS with rs1 = x0 leave unchanged (R211, R232, R48, R115). -/
def Obligations.LoadAndCsrReadFrame : Prop :=
  ∀ (rd rs1 : RegId) (imm : Word) (c : CsrIndex) (s t : State),
    (exec (.lw rd rs1 imm) s = .next t →
      (∀ q, q ≠ rd → t.getReg q = s.getReg q) ∧ t.getReg 0#5 = 0 ∧
      (∀ a, t.mem.readByte a = s.mem.readByte a) ∧ t.params = s.params ∧ t.pc = s.pc + 4 ∧
      t.csr = s.csr.instructionExecuted.getMessage.2) ∧
    (exec (.csrrsRs10 rd c) s = .next t →
      (∀ q, q ≠ rd → t.getReg q = s.getReg q) ∧ t.getReg 0#5 = 0 ∧
      (∀ a, t.mem.readByte a = s.mem.readByte a) ∧ t.params = s.params ∧ t.pc = s.pc + 4 ∧
      t.csr = (s.csr.read c).2.instructionExecuted.getMessage.2)

/-- What the instructions with no destination register leave unchanged (R112, R115, R184, R212, R215, R231, R233 to R236). -/
def Obligations.NoRegisterFrame : Prop :=
  ∀ (rd rs1 rs2 : RegId) (imm : Word) (csr : CsrIndex) (s t : State),
    (∀ i ∈ [Instr.beq rs1 rs2 imm, .bne rs1 rs2 imm, .blt rs1 rs2 imm, .bge rs1 rs2 imm, .bltu rs1 rs2 imm, .bgeu rs1 rs2 imm, .branchF301x rs1 rs2 imm, .lb rd rs1 imm, .lh rd rs1 imm, .loadF3011 rd rs1 imm, .lbu rd rs1 imm, .lhu rd rs1 imm, .loadF3110 rd rs1 imm, .loadF3111 rd rs1 imm, .sb rs1 rs2 imm, .sh rs1 rs2 imm, .storeF3011 rs1 rs2 imm, .storeF31xx rs1 rs2 imm, .ecall, .ebreak, .mret, .sret, .wfi, .csrrw rd rs1 csr, .csrrs rd rs1 csr, .csrrc rd rs1 csr, .csrrwi rd rs1 csr, .csrrsi rd rs1 csr, .csrrci rd rs1 csr, .systemOther rd rs1 csr, .miscMem, .amo, .unrecognized],
      exec i s = .next t →
      (∀ q, t.getReg q = s.getReg q) ∧ (∀ a, t.mem.readByte a = s.mem.readByte a) ∧ t.params = s.params ∧
      t.csr = s.csr.instructionExecuted.getMessage.2) ∧
    (exec (.csrrwRd0 rs1 csr) s = .next t →
      (∀ q, t.getReg q = s.getReg q) ∧ (∀ a, t.mem.readByte a = s.mem.readByte a) ∧ t.params = s.params)

/-- What SW leaves unchanged; the address is the one the datapath itself computes (R109, R114). -/
def Obligations.StoreFrame : Prop :=
  ∀ (rs1 rs2 : RegId) (imm : Word) (s t : State), exec (.sw rs1 rs2 imm) s = .next t →
    (executed (recordOf (.sw rs1 rs2 imm)) s).addr = some (s.getReg rs1 + imm) ∧
    (∀ a, (executed (recordOf (.sw rs1 rs2 imm)) s).addr = some a →
      ∀ b, b ≠ a → b ≠ a + 1 → b ≠ a + 2 → b ≠ a + 3 → t.mem.readByte b = s.mem.readByte b) ∧
    (∀ q, t.getReg q = s.getReg q) ∧ t.params = s.params ∧ t.pc = s.pc + 4 ∧
    t.csr = s.csr.instructionExecuted.getMessage.2

/-- R43, the spec's own choice D10. That the addresses of a misaligned access wrap modulo 2^32 is the model's choice (log entry
11). -/
def Obligations.WordAccessIsLittleEndian : Prop :=
  ∀ (m : Memory) (a v : Word),
    (m.readWord a).toNat = (m.readByte a).toNat + 256 * (m.readByte (a + 1)).toNat
      + 65536 * (m.readByte (a + 2)).toNat + 16777216 * (m.readByte (a + 3)).toNat ∧
    ((m.writeWord a v).readByte a).toNat = v.toNat % 256 ∧
    ((m.writeWord a v).readByte (a + 1)).toNat = v.toNat / 256 % 256 ∧
    ((m.writeWord a v).readByte (a + 2)).toNat = v.toNat / 65536 % 256 ∧
    ((m.writeWord a v).readByte (a + 3)).toNat = v.toNat / 16777216 ∧
    (∀ b, b ≠ a → b ≠ a + 1 → b ≠ a + 2 → b ≠ a + 3 → (m.writeWord a v).readByte b = m.readByte b)

/-- Plain storage, complete before the next step (R48, the spec's own choice D13; R52). -/
def Obligations.LoadAfterStoreGivesTheStoredWord : Prop :=
  ∀ (rd rs1 rs2 rs3 : RegId) (imm imm2 : Word) (s t u : State), rd ≠ 0#5 →
    exec (.sw rs1 rs2 imm) s = .next t → t.getReg rs3 + imm2 = s.getReg rs1 + imm →
    exec (.lw rd rs3 imm2) t = .next u → u.getReg rd = s.getReg rs2

/-- R55: no fence is needed between a store and the fetch of what it wrote. -/
def Obligations.StoreIsFetchedByTheNextStep : Prop :=
  ∀ (rs1 rs2 : RegId) (imm : Word) (s t : State),
    exec (.sw rs1 rs2 imm) s = .next t → s.getReg rs1 + imm = t.pc → t.pc.toNat % 4 = 0 →
    wordInMap t.params.memMap t.pc = true → step t = exec (decodeWord (s.getReg rs2)) t

/-- Fetch and decode of R117: the step is exec of the decoded instruction. -/
def Obligations.StepRunsTheDecodedInstruction : Prop :=
  ∀ (s : State) (i : Instr), s.pc.toNat % 4 = 0 → wordInMap s.params.memMap s.pc = true →
    decode [s.mem.readByte s.pc, s.mem.readByte (s.pc + 1), s.mem.readByte (s.pc + 2), s.mem.readByte (s.pc + 3)] =
      .ok (i, []) →
    step s = exec i s

/-- The step of R117, with the decode of R105 in place of the instruction type: the 60 meanings are this one pipeline. -/
def Obligations.StepIsTheHandlerPipeline : Prop :=
  ∀ s : State,
    step s =
      match fetchWord s with
      | .error f => .fault f
      | .ok w => runRecord (decodeRecord w) s

/-- R44, R49 and the order of R263 (the spec's own choices D11, D13, D28). -/
def Obligations.FetchFaults : Prop :=
  ∀ s : State,
    (s.pc.toNat % 4 ≠ 0 → step s = .fault (.fetchMisaligned s.pc)) ∧
    (s.pc.toNat % 4 = 0 → wordInMap s.params.memMap s.pc = false → step s = .fault (.accessFault s.pc))

/-- R262, R263: there is no other fault, and no exception (R260). -/
def Obligations.StepFaultsOnlyByTheThreeCauses : Prop :=
  ∀ (s : State) (f : Fault), step s = .fault f →
    (s.pc.toNat % 4 ≠ 0 ∧ f = .fetchMisaligned s.pc) ∨
    (wordInMap s.params.memMap s.pc = false ∧ f = .accessFault s.pc) ∨
    (∃ (r rs1 : RegId) (imm : Word),
      (decodeWord (s.mem.readWord s.pc) = .lw r rs1 imm ∨ decodeWord (s.mem.readWord s.pc) = .sw rs1 r imm) ∧
      (((s.getReg rs1 + imm).toNat % 4 ≠ 0 ∧ s.params.misalignedDataPolicy = .fault ∧
          f = .dataMisaligned (s.getReg rs1 + imm)) ∨
        (wordInMap s.params.memMap (s.getReg rs1 + imm) = false ∧ f = .accessFault (s.getReg rs1 + imm))))

/-- R287, R81, R260: "every word executes and sets a next PC". -/
def Obligations.EveryWordExecutes : Prop :=
  ∀ s : State, s.params.refuseUnsupported = false →
    (∀ r, step s ≠ .refused r) ∧
    (s.pc.toNat % 4 = 0 → wordInMap s.params.memMap s.pc = true →
      (∃ t, step s = .next t) ∨
      (∃ (r rs1 : RegId) (imm : Word) (f : Fault),
        (decodeWord (s.mem.readWord s.pc) = .lw r rs1 imm ∨ decodeWord (s.mem.readWord s.pc) = .sw rs1 r imm) ∧
        dataFault s.params (s.getReg rs1 + imm) = some f ∧ step s = .fault f))

/-- How a program comes to be in memory is the host's load (R282); withFetchWord stands for it (log entry 17). -/
def Obligations.WithFetchWordRunsTheWord : Prop :=
  ∀ (s : State) (w : Nat), s.pc.toNat % 4 = 0 → wordInMap s.params.memMap s.pc = true →
    step (s.withFetchWord 32 w) = exec (decodeWord (BitVec.ofNat 32 w)) (s.withFetchWord 32 w) ∧
    (∀ b, b ≠ s.pc → b ≠ s.pc + 1 → b ≠ s.pc + 2 → b ≠ s.pc + 3 →
      (s.withFetchWord 32 w).mem.readByte b = s.mem.readByte b)

/-- The PC multiplexer (R181), as seen in the state after a completed step. -/
def Obligations.OnlyControlTransfersJump : Prop :=
  ∀ (i : Instr) (s t : State), exec i s = .next t →
    t.pc =
      if (recordOf i).kind = .branch ∨ (recordOf i).kind = .jump then
        (if evalCond (recordOf i).brCond (readSource s (recordOf i).rs1) (readSource s (recordOf i).rs2) = true then
          s.pc + (recordOf i).imm.getD 0 else s.pc + 4)
      else if (recordOf i).kind = .jumpRegister then
        (if evalCond (recordOf i).brCond (readSource s (recordOf i).rs1) (readSource s (recordOf i).rs2) = true then
          readSource s (recordOf i).rs1 + (recordOf i).imm.getD 0 else s.pc + 4)
      else s.pc + 4

/-- R192: the block checks no target. -/
def Obligations.MisalignedTargetFaultsAtTheNextFetch : Prop :=
  (∀ (i : Instr) (rd rs1 rs2 : RegId) (imm : Word), i.wf = true →
      i ∈ [Instr.beq rs1 rs2 imm, .bne rs1 rs2 imm, .blt rs1 rs2 imm, .bge rs1 rs2 imm, .bltu rs1 rs2 imm,
        .bgeu rs1 rs2 imm, .branchF301x rs1 rs2 imm, .jal rd imm] →
      imm.toNat % 2 = 0 ∧ ∀ s t : State, exec i s = .next t → s.pc.toNat % 2 = 0 → t.pc.toNat % 2 = 0) ∧
    (∀ (rd rs1 : RegId) (imm : Word) (s : State), ∀ i ∈ [Instr.jal rd imm, .jalr rd rs1 imm],
      ∃ t, exec i s = .next t ∧ (rd ≠ 0#5 → t.getReg rd = s.pc + 4)) ∧
    (∀ (i : Instr) (s t : State),
      ((recordOf i).kind = .branch ∨ (recordOf i).kind = .jump ∨ (recordOf i).kind = .jumpRegister) →
      exec i s = .next t → t.pc.toNat % 4 ≠ 0 → step t = .fault (.fetchMisaligned t.pc))

/-- R27 and the write enable of R112, over all instructions. -/
def Obligations.OneRegisterAtMostPerStep : Prop :=
  ∀ (i : Instr) (s t : State) (q : RegId), exec i s = .next t → t.getReg q ≠ s.getReg q →
    (recordOf i).rd = some q ∧
    ((recordOf i).kind = .alu ∨ (recordOf i).kind = .auipc ∨ (recordOf i).kind = .jump ∨
      (recordOf i).kind = .jumpRegister ∨ (recordOf i).kind = .load ∨ (recordOf i).kind = .csrRead)

/-- R45, R54, R114 over all instructions: no other width, no atomic. The parameters are fixed for a machine (R7). -/
def Obligations.OnlyStoreWritesMemory : Prop :=
  ∀ (i : Instr) (s t : State), exec i s = .next t →
    t.params = s.params ∧ ((∀ rs1 rs2 imm, i ≠ .sw rs1 rs2 imm) → t.mem = s.mem)

/-- R116, the spec's own choice D26. The count is the model's own field (log entry 5). -/
def Obligations.OneNotificationPerCompletedStep : Prop :=
  ∀ (s t : State) (cells : List (Nat × Word)) (n : Nat), s.csr = .plain cells n → step s = .next t →
    (∃ cells', t.csr = .plain cells' (n + 1)) ∧ t.message = none ∧
    ((∀ rs1 c, decodeWord (s.mem.readWord s.pc) ≠ .csrrwRd0 rs1 c) → t.csr = .plain cells (n + 1))

/-- R31 as noninterference: two runs that differ only in the CSR collaborator. -/
def Obligations.CsrFileOnlyThroughItsKinds : Prop :=
  (∀ (s : State) (f : CsrFile) (m : Option Word),
      (∀ e, step s = .fault e → step { s with csr := f, message := m } = .fault e) ∧
      (∀ r, step s = .refused r → step { s with csr := f, message := m } = .refused r) ∧
      (∀ t, step s = .next t → ∃ u, step { s with csr := f, message := m } = .next u ∧
        u.pc = t.pc ∧ u.mem = t.mem ∧ u.params = t.params ∧
        (∀ q, (∀ c, decodeWord (s.mem.readWord s.pc) ≠ .csrrsRs10 q c) → u.getReg q = t.getReg q))) ∧
    (∀ (i : Instr) (s t : State), (∀ rs1 c, i ≠ .csrrwRd0 rs1 c) → (∀ rd c, i ≠ .csrrsRs10 rd c) →
      exec i s = .next t → t.csr = s.csr.instructionExecuted.getMessage.2)

/-- R119: the port list is the spec's own choice D1; its encodings are the model's (log entry 15), and
the form of a message (R118) is too (log entry 8). -/
def Obligations.PortsDriveTheStep : Prop :=
  ∀ s t : State, step s = .next t →
    let d := decodeRecord (s.mem.readWord s.pc)
    let v := fun r : Word => block s.pc ⟨s.mem.readWord s.pc, readSource s d.rs1, readSource s d.rs2, (readCsr d s.csr).1, r⟩
    let o := v (s.mem.readWord (v 0).memAddr)
    o.memAddr = (v 0).memAddr ∧
    t.pc = o.nextPc ∧
    (∀ q, t.getReg q = if o.gprWe = true ∧ o.rd = some q then o.gprWdata else s.getReg q) ∧
    t.mem = (if o.memWe = true then s.mem.writeWord o.memAddr o.memWdata else s.mem) ∧
    t.csr =
      (let f := if o.csrRe = true then (s.csr.read (o.csrIdx.getD 0)).2 else s.csr
       let g := if o.csrWe = true then f.write (o.csrIdx.getD 0) o.csrWdata else f
       g.instructionExecuted.getMessage.2) ∧
    t.message =
      (let f := if o.csrRe = true then (s.csr.read (o.csrIdx.getD 0)).2 else s.csr
       let g := if o.csrWe = true then f.write (o.csrIdx.getD 0) o.csrWdata else f
       g.instructionExecuted.getMessage.1)

/-- The base of the invariant. What it says is of the model's own representation: the canonical lists of memory and of the plain
CSR collaborator and the slot of x0 are its choices (log entries 7, 4 and 3), which no rule of the spec states. -/
def Obligations.ResetStateMeetsTheInvariant : Prop :=
  State.Inv State.reset

/-- The form of every reachable state. The canonical lists of memory and of the plain CSR collaborator and the zero slot of x0 are
the model's own representation (log entries 7, 4 and 3), its choices and no rule of the spec: R25 says that x0 reads 0, not
that a slot holds it. -/
def Obligations.StepKeepsTheInvariant : Prop :=
  (∀ s t : State, s.Inv → step s = .next t → t.Inv) ∧
    (∀ (s : State) (a : Word), s.Inv → (s.resetAt a).Inv) ∧
    (∀ (s : State) (n w : Nat), s.Inv → (s.withFetchWord n w).Inv)

/-- R280. The statement does not speak of the message, which resetAt clears (log entry 8), nor of the parameters. -/
def Obligations.ResetSetsPcAndCsrKeepsRegistersAndMemory : Prop :=
  ∀ (s : State) (a : Word),
    (s.resetAt a).pc = a ∧ (s.resetAt a).csr = s.csr.reset ∧ (∀ q, (s.resetAt a).getReg q = s.getReg q) ∧
    (∀ b, (s.resetAt a).mem.readByte b = s.mem.readByte b)

/-- R281 and R36 (the spec's own choice D29). The plain collaborator and its zeros are D15 (log entry 4), a choice of the model. -/
def Obligations.FirstStepAfterReset : Prop :=
  ∀ (s : State) (a : Word),
    (a.toNat % 4 = 0 → wordInMap s.params.memMap a = true →
      step (s.resetAt a) = exec (decodeWord (s.mem.readWord a)) (s.resetAt a)) ∧
    (a.toNat % 4 ≠ 0 → step (s.resetAt a) = .fault (.fetchMisaligned a)) ∧
    (∀ cells n c, s.csr = .plain cells n → ((s.resetAt a).csr.read c).1 = 0) ∧
    (s.resetAt a).params = s.params

/-- R288: "a `JAL x0, 0` loops forever". That every collaborator answers, so that each step completes, is D23 of R286, the
spec's own choice, and the model's (log entry 16). -/
def Obligations.JumpToItselfLoopsForever : Prop :=
  ∀ (s : State), s.pc.toNat % 4 = 0 → wordInMap s.params.memMap s.pc = true →
    s.mem.readWord s.pc = 0x0000006F#32 →
    ∀ k, ∃ t, Reaches s k t ∧ t.pc = s.pc ∧ t.regs = s.regs ∧ t.mem = s.mem ∧ t.params = s.params

/-- R236, R288: 0x00000000 is a no-op, and the pc wraps (R23, the spec's own choice D2). The premise holds of State.reset through
the model's choices (log entries 7, 9). That every collaborator answers, so that each step completes, is D23 of R286, the
spec's own choice, and the model's (log entry 16). -/
def Obligations.ZeroMemoryIsRunThrough : Prop :=
  ∀ (s : State), (∀ a, s.mem.readByte a = 0) → (∀ a, inMap s.params.memMap a = true) →
    s.params.refuseUnsupported = false → s.pc.toNat % 4 = 0 →
    ∀ k : Nat, ∃ t, Reaches s k t ∧ t.pc = s.pc + BitVec.ofNat 32 (4 * k) ∧ t.regs = s.regs ∧ t.mem = s.mem ∧
      t.params = s.params
end

