-- ==== Sys2Proof/Laws/Sparse.lean ====
section
/-! SUPPORT. Sparse storage: read after write, and the canonical form. -/

namespace Sys2Proof.Machine

variable {α : Type}

@[simp] theorem sparseGet_nil (d : α) (a : Nat) : sparseGet d [] a = d := rfl

theorem sparseGet_erase_same (d : α) (a : Nat) (m : List (Nat × α)) : sparseGet d (sparseErase a m) a = d := by
  induction m with
  | nil => rfl
  | cons e rest ih =>
    obtain ⟨k, v⟩ := e
    by_cases h : k = a
    · simpa [sparseErase, h] using ih
    · simpa [sparseErase, sparseGet, h] using ih

theorem sparseGet_erase_ne (d : α) {a b : Nat} (h : b ≠ a) (m : List (Nat × α)) :
    sparseGet d (sparseErase a m) b = sparseGet d m b := by
  induction m with
  | nil => rfl
  | cons e rest ih =>
    obtain ⟨k, v⟩ := e
    by_cases hk : k = a
    · have : k ≠ b := fun e => h (e ▸ hk)
      simpa [sparseErase, sparseGet, hk, Ne.symm h] using ih
    · by_cases hb : k = b
      · subst hb; simp [sparseErase, sparseGet, hk]
      · simpa [sparseErase, sparseGet, hk, hb] using ih

theorem sparseGet_insert_ne (d v : α) {a b : Nat} (h : b ≠ a) (m : List (Nat × α)) :
    sparseGet d (sparseInsert a v m) b = sparseGet d m b := by
  induction m with
  | nil => simp [sparseInsert, sparseGet, Ne.symm h]
  | cons e rest ih =>
    obtain ⟨k, w⟩ := e
    by_cases hk : a < k
    · simp [sparseInsert, sparseGet, hk, Ne.symm h]
    · simp [sparseInsert, sparseGet, hk, ih]

theorem sparseGet_insert_erased (d v : α) (a : Nat) (m : List (Nat × α)) :
    sparseGet d (sparseInsert a v (sparseErase a m)) a = v := by
  induction m with
  | nil => simp [sparseErase, sparseInsert, sparseGet]
  | cons e rest ih =>
    obtain ⟨k, w⟩ := e
    by_cases h : k = a
    · simpa [sparseErase, h] using ih
    · by_cases hk : a < k
      · simp [sparseErase, sparseInsert, sparseGet, h, hk]
      · simpa [sparseErase, sparseInsert, sparseGet, h, hk] using ih

/-- Everything a write does to what a read gives; it holds for every list, canonical or not. -/
theorem sparseGet_set [DecidableEq α] (d v : α) (a b : Nat) (m : List (Nat × α)) :
    sparseGet d (sparseSet d a v m) b = if b = a then v else sparseGet d m b := by
  unfold sparseSet
  by_cases hb : b = a
  · subst hb
    by_cases hv : v = d
    · simp [hv, sparseGet_erase_same]
    · simp [hv, sparseGet_insert_erased]
  · by_cases hv : v = d
    · simp [hv, hb, sparseGet_erase_ne d hb]
    · simp [hv, hb, sparseGet_insert_ne d v hb, sparseGet_erase_ne d hb]

theorem sparseWfFrom_mono [DecidableEq α] (d : α) (bound : Nat) {lo lo' : Nat} (h : lo' ≤ lo) {m : List (Nat × α)}
    (w : sparseWfFrom d bound lo m = true) : sparseWfFrom d bound lo' m = true := by
  cases m with
  | nil => rfl
  | cons e rest =>
    obtain ⟨k, v⟩ := e
    simp [sparseWfFrom] at w ⊢
    exact ⟨⟨⟨by omega, w.1.1.2⟩, w.1.2⟩, w.2⟩

theorem sparseWfFrom_erase [DecidableEq α] (d : α) (bound a : Nat) {lo : Nat} {m : List (Nat × α)}
    (w : sparseWfFrom d bound lo m = true) : sparseWfFrom d bound lo (sparseErase a m) = true := by
  induction m generalizing lo with
  | nil => rfl
  | cons e rest ih =>
    obtain ⟨k, v⟩ := e
    simp [sparseWfFrom] at w
    by_cases h : k = a
    · simpa [sparseErase, h] using ih (sparseWfFrom_mono d bound (lo' := lo) (by omega) w.2)
    · simp [sparseErase, h, sparseWfFrom, w.1.1.1, w.1.1.2, w.1.2, ih w.2]

theorem sparseWfFrom_insert [DecidableEq α] (d : α) (bound a : Nat) (ha : a < bound) {v : α} (hv : v ≠ d) {lo : Nat}
    (hlo : lo ≤ a) {m : List (Nat × α)} (w : sparseWfFrom d bound lo (sparseErase a m) = true) :
    sparseWfFrom d bound lo (sparseInsert a v (sparseErase a m)) = true := by
  induction m generalizing lo with
  | nil => simp [sparseErase, sparseInsert, sparseWfFrom, ha, hv, hlo]
  | cons e rest ih =>
    obtain ⟨k, u⟩ := e
    by_cases h : k = a
    · simp only [sparseErase, h, if_true] at w ⊢
      exact ih hlo w
    · simp only [sparseErase, h, if_false] at w ⊢
      simp [sparseWfFrom] at w
      by_cases hk : a < k
      · simp [sparseInsert, hk, sparseWfFrom, ha, hv, hlo, w]
      · simp [sparseInsert, hk, sparseWfFrom, w.1.1.1, w.1.1.2, w.1.2]
        exact ih (by omega) w.2

/-- A write keeps the canonical form. -/
theorem sparseWf_set [DecidableEq α] (d v : α) (bound a : Nat) (ha : a < bound) {m : List (Nat × α)}
    (w : sparseWf d bound m = true) : sparseWf d bound (sparseSet d a v m) = true := by
  have e := sparseWfFrom_erase d bound a w
  unfold sparseSet
  by_cases hv : v = d
  · simpa [hv, sparseWf] using e
  · simpa [hv, sparseWf] using sparseWfFrom_insert d bound a ha hv (Nat.zero_le a) e

end Sys2Proof.Machine
end

