-- ==== Sys2Proof/Laws/Memory.lean ====
section
/-! SUPPORT. Memory and the CSR collaborator: read after write, bytes and words, and the canonical forms. -/

namespace Sys2Proof.Machine

/-! ## Bytes -/

/-- Everything a byte write does to what a byte read gives. -/
theorem Memory.readByte_writeByte (m : Memory) (a b : Word) (v : Byte) :
    (m.writeByte a v).readByte b = if b = a then v else m.readByte b := by
  simp only [Memory.readByte, Memory.writeByte, sparseGet_set, BitVec.toNat_inj]

theorem Memory.wf_writeByte {m : Memory} (h : m.wf = true) (a : Word) (v : Byte) : (m.writeByte a v).wf = true :=
  sparseWf_set _ _ _ _ a.isLt h

/-! ## Words -/

theorem Memory.wf_writeWord {m : Memory} (h : m.wf = true) (a v : Word) : (m.writeWord a v).wf = true :=
  wf_writeByte (wf_writeByte (wf_writeByte (wf_writeByte h _ _) _ _) _ _) _ _

/-- The four addresses of a word differ. -/
theorem word_offsets_ne (a : Word) :
    a ≠ a + 1 ∧ a ≠ a + 2 ∧ a ≠ a + 3 ∧ a + 1 ≠ a + 2 ∧ a + 1 ≠ a + 3 ∧ a + 2 ≠ a + 3 := by
  refine ⟨?_, ?_, ?_, ?_, ?_, ?_⟩ <;> · intro h; bv_omega

/-- A word write leaves every other byte alone. -/
theorem Memory.readByte_writeWord_outside (m : Memory) (a v b : Word)
    (h : b ≠ a ∧ b ≠ a + 1 ∧ b ≠ a + 2 ∧ b ≠ a + 3) : (m.writeWord a v).readByte b = m.readByte b := by
  simp only [Memory.writeWord, Memory.readByte_writeByte, h.1, h.2.1, h.2.2.1, h.2.2.2, if_false]

/-- The four bytes a word write leaves, the least significant at the lowest address (R43). -/
theorem Memory.readByte_writeWord_inside (m : Memory) (a v : Word) :
    (m.writeWord a v).readByte a = byteOfWord 0 v ∧ (m.writeWord a v).readByte (a + 1) = byteOfWord 1 v ∧
      (m.writeWord a v).readByte (a + 2) = byteOfWord 2 v ∧ (m.writeWord a v).readByte (a + 3) = byteOfWord 3 v := by
  obtain ⟨h1, h2, h3, h4, h5, h6⟩ := word_offsets_ne a
  simp only [Memory.writeWord, Memory.readByte_writeByte, h1, h2, h3, h4, h5, h6, if_false, if_true, and_self]

/-- The bytes of a word put together again. -/
theorem wordOfBytes_byteOfWord (v : Word) :
    wordOfBytes (byteOfWord 0 v) (byteOfWord 1 v) (byteOfWord 2 v) (byteOfWord 3 v) = v := by
  apply BitVec.eq_of_getLsbD_eq
  intro i hi
  show BitVec.getLsbD (w := 8 + 8 + 8 + 8) (byteOfWord 3 v ++ byteOfWord 2 v ++ byteOfWord 1 v ++ byteOfWord 0 v) i = _
  simp only [BitVec.getLsbD_append, byteOfWord, BitVec.getLsbD_extractLsb']
  grind

/-- A word read after a word write to the same address gives the value written, aligned or not. -/
theorem Memory.readWord_writeWord_same (m : Memory) (a v : Word) : (m.writeWord a v).readWord a = v := by
  obtain ⟨h0, h1, h2, h3⟩ := m.readByte_writeWord_inside a v
  rw [Memory.readWord, h0, h1, h2, h3, wordOfBytes_byteOfWord]

/-! ## The CSR collaborator -/

theorem CsrFile.wf_read {f : CsrFile} (h : f.wf = true) (c : CsrIndex) : (f.read c).2.wf = true := by
  cases f <;> simp_all [CsrFile.read, CsrFile.wf]

theorem CsrFile.wf_write {f : CsrFile} (h : f.wf = true) (c : CsrIndex) (v : Word) : (f.write c v).wf = true := by
  cases f with
  | plain cells n => exact sparseWf_set _ _ _ _ c.isLt h
  | external data => rfl

theorem CsrFile.wf_instructionExecuted {f : CsrFile} (h : f.wf = true) : f.instructionExecuted.wf = true := by
  cases f <;> simp_all [CsrFile.instructionExecuted, CsrFile.wf]

theorem CsrFile.wf_getMessage {f : CsrFile} (h : f.wf = true) : f.getMessage.2.wf = true := by
  cases f <;> simp_all [CsrFile.getMessage, CsrFile.wf]

theorem CsrFile.wf_reset (f : CsrFile) : f.reset.wf = true := by cases f <;> rfl

/-- Read after write in the plain collaborator (D15). -/
theorem CsrFile.read_write_plain (cells : List (Nat × Word)) (n : Nat) (c b : CsrIndex) (v : Word) :
    (((CsrFile.plain cells n).write c v).read b).1 = if b = c then v else ((CsrFile.plain cells n).read b).1 := by
  simp only [CsrFile.read, CsrFile.write, sparseGet_set, BitVec.toNat_inj]

end Sys2Proof.Machine
end

