-- ==== Sys2Proof/Laws/State.lean ====
section
/-! SUPPORT. The small lemmas of the state's updates: one per field per update, and the register file's read and write. -/

namespace Sys2Proof.Machine

/-! ## `setReg` -/

@[simp] theorem State.setReg_zero (s : State) (v : Word) : s.setReg 0#5 v = s := by simp [State.setReg]

@[simp] theorem State.setReg_pc (s : State) (r : RegId) (v : Word) : (s.setReg r v).pc = s.pc := by
  unfold State.setReg; split <;> rfl

@[simp] theorem State.setReg_csr (s : State) (r : RegId) (v : Word) : (s.setReg r v).csr = s.csr := by
  unfold State.setReg; split <;> rfl

@[simp] theorem State.setReg_mem (s : State) (r : RegId) (v : Word) : (s.setReg r v).mem = s.mem := by
  unfold State.setReg; split <;> rfl

@[simp] theorem State.setReg_message (s : State) (r : RegId) (v : Word) : (s.setReg r v).message = s.message := by
  unfold State.setReg; split <;> rfl

@[simp] theorem State.setReg_params (s : State) (r : RegId) (v : Word) : (s.setReg r v).params = s.params := by
  unfold State.setReg; split <;> rfl

/-- The slot of `x0` is never written. -/
@[simp] theorem State.setReg_slot0 (s : State) (r : RegId) (v : Word) : (s.setReg r v).regs[0] = s.regs[0] := by
  unfold State.setReg
  split
  · rfl
  · rename_i h
    have : r.toNat ≠ 0 := fun e => h (BitVec.eq_of_toNat_eq e)
    simp [this]

/-! ## `getReg` -/

@[simp] theorem State.getReg_zero (s : State) : s.getReg 0#5 = 0 := rfl

theorem State.getReg_of_regs_eq {s t : State} (h : s.regs = t.regs) (r : RegId) : s.getReg r = t.getReg r := by
  simp [State.getReg, h]

theorem State.getReg_setReg_same (s : State) {r : RegId} (h : r ≠ 0#5) (v : Word) : (s.setReg r v).getReg r = v := by
  simp [State.getReg, State.setReg, h]

theorem State.getReg_setReg_ne (s : State) {r q : RegId} (h : q ≠ r) (v : Word) :
    (s.setReg r v).getReg q = s.getReg q := by
  have : r.toNat ≠ q.toNat := fun e => h (BitVec.eq_of_toNat_eq e.symm)
  by_cases hr : r = 0#5
  · simp [hr]
  · simp [State.getReg, State.setReg, hr, this]

/-- Everything a register write does to the registers. -/
theorem State.getReg_setReg (s : State) (r q : RegId) (v : Word) :
    (s.setReg r v).getReg q = if q = r ∧ r ≠ 0#5 then v else s.getReg q := by
  by_cases hq : q = r
  · subst hq
    by_cases h0 : q = 0#5
    · subst h0; simp
    · simp [State.getReg_setReg_same s h0, h0]
  · simp [State.getReg_setReg_ne s hq, hq]

/-! ## `retire` -/

@[simp] theorem State.retire_pc (s : State) (n : Word) : (s.retire n).pc = n := rfl

@[simp] theorem State.retire_regs (s : State) (n : Word) : (s.retire n).regs = s.regs := rfl

@[simp] theorem State.retire_getReg (s : State) (n : Word) (r : RegId) : (s.retire n).getReg r = s.getReg r := rfl

@[simp] theorem State.retire_mem (s : State) (n : Word) : (s.retire n).mem = s.mem := rfl

@[simp] theorem State.retire_params (s : State) (n : Word) : (s.retire n).params = s.params := rfl

@[simp] theorem State.retire_csr (s : State) (n : Word) :
    (s.retire n).csr = s.csr.instructionExecuted.getMessage.2 := rfl

@[simp] theorem State.retire_message (s : State) (n : Word) :
    (s.retire n).message = s.csr.instructionExecuted.getMessage.1 := rfl

/-! ## `resetAt` -/

@[simp] theorem State.resetAt_pc (s : State) (a : Word) : (s.resetAt a).pc = a := rfl

@[simp] theorem State.resetAt_regs (s : State) (a : Word) : (s.resetAt a).regs = s.regs := rfl

@[simp] theorem State.resetAt_mem (s : State) (a : Word) : (s.resetAt a).mem = s.mem := rfl

@[simp] theorem State.resetAt_csr (s : State) (a : Word) : (s.resetAt a).csr = s.csr.reset := rfl

@[simp] theorem State.resetAt_message (s : State) (a : Word) : (s.resetAt a).message = none := rfl

@[simp] theorem State.resetAt_params (s : State) (a : Word) : (s.resetAt a).params = s.params := rfl

/-! ## `withFetchWord` -/

@[simp] theorem State.withFetchWord_pc (s : State) (n w : Nat) : (s.withFetchWord n w).pc = s.pc := rfl

@[simp] theorem State.withFetchWord_regs (s : State) (n w : Nat) : (s.withFetchWord n w).regs = s.regs := rfl

@[simp] theorem State.withFetchWord_csr (s : State) (n w : Nat) : (s.withFetchWord n w).csr = s.csr := rfl

@[simp] theorem State.withFetchWord_message (s : State) (n w : Nat) : (s.withFetchWord n w).message = s.message := rfl

@[simp] theorem State.withFetchWord_params (s : State) (n w : Nat) : (s.withFetchWord n w).params = s.params := rfl

@[simp] theorem State.withFetchWord_mem (s : State) (n w : Nat) :
    (s.withFetchWord n w).mem = s.mem.writeWord s.pc (BitVec.ofNat 32 (w % 2 ^ n)) := rfl

end Sys2Proof.Machine
end

