-- ==== Sys2Proof/Laws/Datapath.lean ====
section
/-! SUPPORT. The datapath said once: a meaning is its record run, when a record completes, and what the end of a step does
to each field of the state. -/

namespace Sys2Proof.Machine

/-- Every meaning is its record run through the datapath. -/
theorem exec_eq_runRecord (i : Instr) (s : State) : exec i s = runRecord (recordOf i) s := by cases i <;> rfl

/-! ## When a record completes -/

/-- Everything a completed record says. -/
theorem runRecord_eq_next {d : Decoded} {s t : State} :
    runRecord d s = .next t ↔
      (s.params.refuseUnsupported && isNoOp d) = false ∧ recordFault (executed d s) s.params = none ∧
        commit (executed d s) s = t := by
  unfold runRecord
  cases h : (s.params.refuseUnsupported && isNoOp d)
  · cases hf : recordFault (executed d s) s.params <;> simp
  · simp

/-- Everything a faulting record says. -/
theorem runRecord_eq_fault {d : Decoded} {s : State} {f : Fault} :
    runRecord d s = .fault f ↔
      (s.params.refuseUnsupported && isNoOp d) = false ∧ recordFault (executed d s) s.params = some f := by
  unfold runRecord
  cases h : (s.params.refuseUnsupported && isNoOp d)
  · cases hf : recordFault (executed d s) s.params <;> simp
  · simp

/-- Everything a refused record says. -/
theorem runRecord_eq_refused {d : Decoded} {s : State} {r : Refusal} :
    runRecord d s = .refused r ↔
      (s.params.refuseUnsupported && isNoOp d) = true ∧ r = .noOpRefused d.kind := by
  unfold runRecord
  cases h : (s.params.refuseUnsupported && isNoOp d)
  · cases hf : recordFault (executed d s) s.params <;> simp
  · simp [eq_comm]

/-! ## The executed record -/

@[simp] theorem executed_kind (d : Decoded) (s : State) : (executed d s).kind = d.kind := rfl

@[simp] theorem executed_rd (d : Decoded) (s : State) : (executed d s).rd = d.rd := rfl

@[simp] theorem executed_csrIdx (d : Decoded) (s : State) : (executed d s).csrIdx = d.csrIdx := rfl

/-- Only kinds Load and Store have a data address (R109). -/
theorem executed_addr (d : Decoded) (s : State) :
    (executed d s).addr = if accessesMemory d.kind then some (aluOut (d.bind s)) else none := rfl

theorem executed_result (d : Decoded) (s : State) :
    (executed d s).result = wbSelect (d.bind s) (aluOut (d.bind s)) s.pc := rfl

/-- The control phase sees the record the ALU phase left, which has the kind, condition and operands of decode. -/
theorem executed_nextPc (d : Decoded) (s : State) : (executed d s).nextPc = pcMux (d.bind s) s.pc := rfl

/-- A record that accesses no memory does not fault. -/
theorem recordFault_none {d : Decoded} {s : State} (h : accessesMemory d.kind = false) :
    recordFault (executed d s) s.params = none := by
  simp [recordFault, executed_addr, h]

/-! ## The register write -/

@[simp] theorem writeBack_pc (d : Decoded) (v : Word) (s : State) : (writeBack d v s).pc = s.pc := by
  unfold writeBack; split <;> simp

@[simp] theorem writeBack_mem (d : Decoded) (v : Word) (s : State) : (writeBack d v s).mem = s.mem := by
  unfold writeBack; split <;> simp

@[simp] theorem writeBack_csr (d : Decoded) (v : Word) (s : State) : (writeBack d v s).csr = s.csr := by
  unfold writeBack; split <;> simp

@[simp] theorem writeBack_params (d : Decoded) (v : Word) (s : State) : (writeBack d v s).params = s.params := by
  unfold writeBack; split <;> simp

@[simp] theorem writeBack_slot0 (d : Decoded) (v : Word) (s : State) : (writeBack d v s).regs[0] = s.regs[0] := by
  unfold writeBack; split <;> simp

/-- A register write leaves every register but the destination alone. -/
theorem writeBack_getReg_other (d : Decoded) (v : Word) (s : State) (q : RegId)
    (h : writesRegister d.kind = false ∨ d.rd ≠ some q) : (writeBack d v s).getReg q = s.getReg q := by
  unfold writeBack
  split
  · rename_i r hk hr
    have : q ≠ r := by
      rintro rfl
      rcases h with h | h
      · simp [h] at hk
      · exact h hr
    exact s.getReg_setReg_ne this v
  · rfl

/-! ## The end of a step, field by field -/

@[simp] theorem commit_pc (d : Decoded) (s : State) : (commit d s).pc = d.nextPc := rfl

@[simp] theorem commit_params (d : Decoded) (s : State) : (commit d s).params = s.params := by simp [commit]

@[simp] theorem commit_mem (d : Decoded) (s : State) : (commit d s).mem = storePhase d s.mem := by simp [commit]

/-- The CSR collaborator after a step: its answer to the read, the write, the notification, the message. -/
theorem commit_csr (d : Decoded) (s : State) :
    (commit d s).csr = (csrWritePhase d (readCsr d s.csr).2).instructionExecuted.getMessage.2 := by simp [commit]

theorem commit_message (d : Decoded) (s : State) :
    (commit d s).message = (csrWritePhase d (readCsr d s.csr).2).instructionExecuted.getMessage.1 := by simp [commit]

theorem commit_getReg (d : Decoded) (s : State) (q : RegId) :
    (commit d s).getReg q = (writeBack d (wbData d s.mem) s).getReg q := by
  refine State.getReg_of_regs_eq ?_ q
  simp only [commit, State.retire_regs]
  unfold writeBack
  split
  · simp only [State.setReg]; split <;> rfl
  · rfl

@[simp] theorem commit_slot0 (d : Decoded) (s : State) : (commit d s).regs[0] = s.regs[0] := by simp [commit]

/-- Only kind Store changes memory. -/
theorem storePhase_other {d : Decoded} {m : Memory} (h : d.kind ≠ .store) : storePhase d m = m := by
  unfold storePhase
  split
  · rename_i hk _; exact absurd hk h
  · rfl

/-- Only the CSR kinds read a CSR. -/
theorem readCsr_other {d : Decoded} {f : CsrFile} (h : readsCsr d.kind = false) : readCsr d f = (0, f) := by
  simp [readCsr, h]

/-- Only kind CsrWrite writes a CSR. -/
theorem csrWritePhase_other {d : Decoded} {f : CsrFile} (h : d.kind ≠ .csrWrite) : csrWritePhase d f = f := by
  unfold csrWritePhase
  split
  · rename_i hk _; exact absurd hk h
  · rfl

end Sys2Proof.Machine
end

