-- ==== Sys2Proof/Laws/Encoding.lean ====
section
/-! SUPPORT. The layouts bit by bit: the fields and immediates the decoder reads from each layout the encoder builds. -/

namespace Sys2Proof

/-! ## Bits of each layout -/

theorem encR_bit (f7 : BitVec 7) (rs2 rs1 : RegId) (f3 : Funct3) (rd : RegId) (op : Opcode) (i : Nat) :
    (encR f7 rs2 rs1 f3 rd op).getLsbD i =
      if i < 7 then op.getLsbD i else if i < 12 then rd.getLsbD (i - 7) else if i < 15 then f3.getLsbD (i - 12)
      else if i < 20 then rs1.getLsbD (i - 15) else if i < 25 then rs2.getLsbD (i - 20) else f7.getLsbD (i - 25) := by
  show BitVec.getLsbD (w := 7 + 5 + 5 + 3 + 5 + 7) (f7 ++ rs2 ++ rs1 ++ f3 ++ rd ++ op) i = _
  simp only [BitVec.getLsbD_append]
  grind

theorem encI_bit (imm : Word) (rs1 : RegId) (f3 : Funct3) (rd : RegId) (op : Opcode) (i : Nat) :
    (encI imm rs1 f3 rd op).getLsbD i =
      if i < 7 then op.getLsbD i else if i < 12 then rd.getLsbD (i - 7) else if i < 15 then f3.getLsbD (i - 12)
      else if i < 20 then rs1.getLsbD (i - 15) else decide (i - 20 < 12) && imm.getLsbD (i - 20) := by
  show BitVec.getLsbD (w := 12 + 5 + 3 + 5 + 7) (imm.extractLsb' 0 12 ++ rs1 ++ f3 ++ rd ++ op) i = _
  simp only [BitVec.getLsbD_append, BitVec.getLsbD_extractLsb']
  grind

theorem encCsr_bit (csr : CsrIndex) (rs1 : RegId) (f3 : Funct3) (rd : RegId) (i : Nat) :
    (encCsr csr rs1 f3 rd).getLsbD i =
      if i < 7 then (0x73#7).getLsbD i else if i < 12 then rd.getLsbD (i - 7)
      else if i < 15 then f3.getLsbD (i - 12) else if i < 20 then rs1.getLsbD (i - 15) else csr.getLsbD (i - 20) := by
  show BitVec.getLsbD (w := 12 + 5 + 3 + 5 + 7) (csr ++ rs1 ++ f3 ++ rd ++ 0x73#7) i = _
  simp only [BitVec.getLsbD_append]
  grind

theorem encS_bit (imm : Word) (rs2 rs1 : RegId) (f3 : Funct3) (op : Opcode) (i : Nat) :
    (encS imm rs2 rs1 f3 op).getLsbD i =
      if i < 7 then op.getLsbD i else if i < 12 then imm.getLsbD (i - 7) else if i < 15 then f3.getLsbD (i - 12)
      else if i < 20 then rs1.getLsbD (i - 15) else if i < 25 then rs2.getLsbD (i - 20)
      else decide (i - 25 < 7) && imm.getLsbD (i - 20) := by
  show BitVec.getLsbD (w := 7 + 5 + 5 + 3 + 5 + 7)
    (imm.extractLsb' 5 7 ++ rs2 ++ rs1 ++ f3 ++ imm.extractLsb' 0 5 ++ op) i = _
  simp only [BitVec.getLsbD_append, BitVec.getLsbD_extractLsb']
  grind

theorem encB_bit (imm : Word) (rs2 rs1 : RegId) (f3 : Funct3) (i : Nat) :
    (encB imm rs2 rs1 f3).getLsbD i =
      if i < 7 then (0x63#7).getLsbD i else if i < 8 then imm.getLsbD 11 else if i < 12 then imm.getLsbD (i - 7)
      else if i < 15 then f3.getLsbD (i - 12) else if i < 20 then rs1.getLsbD (i - 15)
      else if i < 25 then rs2.getLsbD (i - 20) else if i < 31 then imm.getLsbD (i - 20)
      else decide (i - 31 < 1) && imm.getLsbD (i - 31 + 12) := by
  show BitVec.getLsbD (w := 1 + 6 + 5 + 5 + 3 + 4 + 1 + 7) (imm.extractLsb' 12 1 ++ imm.extractLsb' 5 6 ++ rs2 ++ rs1
    ++ f3 ++ imm.extractLsb' 1 4 ++ imm.extractLsb' 11 1 ++ 0x63#7) i = _
  simp only [BitVec.getLsbD_append, BitVec.getLsbD_extractLsb']
  grind

theorem encU_bit (imm : Word) (rd : RegId) (op : Opcode) (i : Nat) :
    (encU imm rd op).getLsbD i =
      if i < 7 then op.getLsbD i else if i < 12 then rd.getLsbD (i - 7)
      else decide (i - 12 < 20) && imm.getLsbD i := by
  show BitVec.getLsbD (w := 20 + 5 + 7) (imm.extractLsb' 12 20 ++ rd ++ op) i = _
  simp only [BitVec.getLsbD_append, BitVec.getLsbD_extractLsb']
  grind

theorem encJ_bit (imm : Word) (rd : RegId) (i : Nat) :
    (encJ imm rd).getLsbD i =
      if i < 7 then (0x6F#7).getLsbD i else if i < 12 then rd.getLsbD (i - 7) else if i < 20 then imm.getLsbD i
      else if i < 21 then imm.getLsbD 11 else if i < 31 then imm.getLsbD (i - 20)
      else decide (i - 31 < 1) && imm.getLsbD (i - 31 + 20) := by
  show BitVec.getLsbD (w := 1 + 10 + 1 + 8 + 5 + 7) (imm.extractLsb' 20 1 ++ imm.extractLsb' 1 10
    ++ imm.extractLsb' 11 1 ++ imm.extractLsb' 12 8 ++ rd ++ 0x6F#7) i = _
  simp only [BitVec.getLsbD_append, BitVec.getLsbD_extractLsb']
  grind

/-! ## Fields of each layout -/

theorem encR_fields (f7 : BitVec 7) (rs2 rs1 : RegId) (f3 : Funct3) (rd : RegId) (op : Opcode) :
    opcodeOf (encR f7 rs2 rs1 f3 rd op) = op ∧ rdOf (encR f7 rs2 rs1 f3 rd op) = rd ∧
    funct3Of (encR f7 rs2 rs1 f3 rd op) = f3 ∧ rs1Of (encR f7 rs2 rs1 f3 rd op) = rs1 ∧
    rs2Of (encR f7 rs2 rs1 f3 rd op) = rs2 ∧ selOf (encR f7 rs2 rs1 f3 rd op) = f7.getLsbD 5 := by
  refine ⟨?_, ?_, ?_, ?_, ?_, by rw [selOf, encR_bit]; rfl⟩
  all_goals
    apply BitVec.eq_of_getLsbD_eq
    intro i hi
    simp only [opcodeOf, rdOf, funct3Of, rs1Of, rs2Of, BitVec.getLsbD_extractLsb', encR_bit]
    grind

theorem encI_fields (imm : Word) (rs1 : RegId) (f3 : Funct3) (rd : RegId) (op : Opcode) :
    opcodeOf (encI imm rs1 f3 rd op) = op ∧ rdOf (encI imm rs1 f3 rd op) = rd ∧
    funct3Of (encI imm rs1 f3 rd op) = f3 ∧ rs1Of (encI imm rs1 f3 rd op) = rs1 ∧
    (encI imm rs1 f3 rd op).extractLsb' 20 12 = imm.extractLsb' 0 12 := by
  refine ⟨?_, ?_, ?_, ?_, ?_⟩
  all_goals
    apply BitVec.eq_of_getLsbD_eq
    intro i hi
    simp only [opcodeOf, rdOf, funct3Of, rs1Of, BitVec.getLsbD_extractLsb', encI_bit]
    grind

theorem encCsr_fields (csr : CsrIndex) (rs1 : RegId) (f3 : Funct3) (rd : RegId) :
    opcodeOf (encCsr csr rs1 f3 rd) = 0x73#7 ∧ rdOf (encCsr csr rs1 f3 rd) = rd ∧
    funct3Of (encCsr csr rs1 f3 rd) = f3 ∧ rs1Of (encCsr csr rs1 f3 rd) = rs1 ∧
    csrOf (encCsr csr rs1 f3 rd) = csr := by
  refine ⟨?_, ?_, ?_, ?_, ?_⟩
  all_goals
    apply BitVec.eq_of_getLsbD_eq
    intro i hi
    simp only [opcodeOf, rdOf, funct3Of, rs1Of, csrOf, BitVec.getLsbD_extractLsb', encCsr_bit]
    grind

theorem encS_fields (imm : Word) (rs2 rs1 : RegId) (f3 : Funct3) (op : Opcode) :
    opcodeOf (encS imm rs2 rs1 f3 op) = op ∧ funct3Of (encS imm rs2 rs1 f3 op) = f3 ∧
    rs1Of (encS imm rs2 rs1 f3 op) = rs1 ∧ rs2Of (encS imm rs2 rs1 f3 op) = rs2 := by
  refine ⟨?_, ?_, ?_, ?_⟩
  all_goals
    apply BitVec.eq_of_getLsbD_eq
    intro i hi
    simp only [opcodeOf, funct3Of, rs1Of, rs2Of, BitVec.getLsbD_extractLsb', encS_bit]
    grind

theorem encB_fields (imm : Word) (rs2 rs1 : RegId) (f3 : Funct3) :
    opcodeOf (encB imm rs2 rs1 f3) = 0x63#7 ∧ funct3Of (encB imm rs2 rs1 f3) = f3 ∧
    rs1Of (encB imm rs2 rs1 f3) = rs1 ∧ rs2Of (encB imm rs2 rs1 f3) = rs2 := by
  refine ⟨?_, ?_, ?_, ?_⟩
  all_goals
    apply BitVec.eq_of_getLsbD_eq
    intro i hi
    simp only [opcodeOf, funct3Of, rs1Of, rs2Of, BitVec.getLsbD_extractLsb', encB_bit]
    grind

theorem encU_fields (imm : Word) (rd : RegId) (op : Opcode) :
    opcodeOf (encU imm rd op) = op ∧ rdOf (encU imm rd op) = rd := by
  refine ⟨?_, ?_⟩
  all_goals
    apply BitVec.eq_of_getLsbD_eq
    intro i hi
    simp only [opcodeOf, rdOf, BitVec.getLsbD_extractLsb', encU_bit]
    grind

theorem encJ_fields (imm : Word) (rd : RegId) : opcodeOf (encJ imm rd) = 0x6F#7 ∧ rdOf (encJ imm rd) = rd := by
  refine ⟨?_, ?_⟩
  all_goals
    apply BitVec.eq_of_getLsbD_eq
    intro i hi
    simp only [opcodeOf, rdOf, BitVec.getLsbD_extractLsb', encJ_bit]
    grind

/-! ## Immediates of each layout -/

theorem fitsSigned_eq {n : Nat} {imm : Word} (h : fitsSigned n imm = true) : sext (imm.extractLsb' 0 n) = imm := by
  exact of_decide_eq_true h

theorem immI_encI {imm : Word} (h : fitsSigned 12 imm = true) (rs1 : RegId) (f3 : Funct3) (rd : RegId) (op : Opcode) :
    immI (encI imm rs1 f3 rd op) = imm := by
  rw [immI, (encI_fields imm rs1 f3 rd op).2.2.2.2]
  exact fitsSigned_eq h

theorem immShamt_encR {imm : Word} (h : isShamt imm = true) (f7 : BitVec 7) (rs1 : RegId) (f3 : Funct3) (rd : RegId)
    (op : Opcode) : immShamt (encR f7 (imm.extractLsb' 0 5) rs1 f3 rd op) = imm := by
  have e : (encR f7 (imm.extractLsb' 0 5) rs1 f3 rd op).extractLsb' 20 5 = imm.extractLsb' 0 5 :=
    (encR_fields f7 (imm.extractLsb' 0 5) rs1 f3 rd op).2.2.2.2.1
  have h' : imm.toNat < 32 := by simpa [isShamt] using h
  rw [immShamt, e]
  apply BitVec.eq_of_toNat_eq
  simp
  omega

theorem immS_encS {imm : Word} (h : fitsSigned 12 imm = true) (rs2 rs1 : RegId) (f3 : Funct3) (op : Opcode) :
    immS (encS imm rs2 rs1 f3 op) = imm := by
  have e : (encS imm rs2 rs1 f3 op).extractLsb' 25 7 ++ (encS imm rs2 rs1 f3 op).extractLsb' 7 5
      = (imm.extractLsb' 0 12 : BitVec (7 + 5)) := by
    apply BitVec.eq_of_getLsbD_eq
    intro i hi
    simp only [BitVec.getLsbD_append, BitVec.getLsbD_extractLsb', encS_bit]
    grind
  rw [immS, e]
  exact fitsSigned_eq h

/-- An even word has bit 0 clear. -/
theorem isEven_bit {imm : Word} (h : isEven imm = true) : imm.getLsbD 0 = false := by
  simpa only [isEven, Bool.not_eq_true'] using h

theorem immB_encB {imm : Word} (h : fitsSigned 13 imm = true) (h0 : isEven imm = true) (rs2 rs1 : RegId) (f3 : Funct3) :
    immB (encB imm rs2 rs1 f3) = imm := by
  have z := isEven_bit h0
  have e : (encB imm rs2 rs1 f3).extractLsb' 31 1 ++ (encB imm rs2 rs1 f3).extractLsb' 7 1
      ++ (encB imm rs2 rs1 f3).extractLsb' 25 6 ++ (encB imm rs2 rs1 f3).extractLsb' 8 4 ++ 0#1
      = (imm.extractLsb' 0 13 : BitVec (1 + 1 + 6 + 4 + 1)) := by
    apply BitVec.eq_of_getLsbD_eq
    intro i hi
    simp only [BitVec.getLsbD_append, BitVec.getLsbD_extractLsb', encB_bit, BitVec.getLsbD_zero]
    grind
  rw [immB, e]
  exact fitsSigned_eq h

theorem immJ_encJ {imm : Word} (h : fitsSigned 21 imm = true) (h0 : isEven imm = true) (rd : RegId) :
    immJ (encJ imm rd) = imm := by
  have z := isEven_bit h0
  have e : (encJ imm rd).extractLsb' 31 1 ++ (encJ imm rd).extractLsb' 12 8 ++ (encJ imm rd).extractLsb' 20 1
      ++ (encJ imm rd).extractLsb' 21 10 ++ 0#1 = (imm.extractLsb' 0 21 : BitVec (1 + 8 + 1 + 10 + 1)) := by
    apply BitVec.eq_of_getLsbD_eq
    intro i hi
    simp only [BitVec.getLsbD_append, BitVec.getLsbD_extractLsb', encJ_bit, BitVec.getLsbD_zero]
    grind
  rw [immJ, e]
  exact fitsSigned_eq h

theorem immU_encU {imm : Word} (h : isUpper imm = true) (rd : RegId) (op : Opcode) : immU (encU imm rd op) = imm := by
  have z : imm.extractLsb' 0 12 = 0#12 := by simpa [isUpper] using h
  apply BitVec.eq_of_getLsbD_eq
  intro i hi
  have zi : i < 12 → imm.getLsbD i = false := by
    intro hi'
    have := congrArg (fun v => v.getLsbD i) z
    simpa [BitVec.getLsbD_extractLsb', hi'] using this
  show BitVec.getLsbD (w := 20 + 12) ((encU imm rd op).extractLsb' 12 20 ++ 0#12) i = _
  simp only [BitVec.getLsbD_append, BitVec.getLsbD_extractLsb', encU_bit, BitVec.getLsbD_zero]
  grind

/-! ## What the decoder's immediates satisfy, and the SYSTEM words that have a name -/

/-- A sign-extended field fits its width. -/
theorem fitsSigned_sext {n : Nat} (v : BitVec n) (hn : n ≤ 32) : fitsSigned n (sext v) = true := by
  have : (sext v).extractLsb' 0 n = v := by
    apply BitVec.eq_of_getLsbD_eq
    intro i hi
    simp [sext, BitVec.getLsbD_signExtend, hi]
    omega
  simp [fitsSigned, this]; rfl

/-- Bit 0 of a sign-extended field. -/
theorem sext_bit_zero {n : Nat} (v : BitVec n) (h : 0 < n) : (sext v).getLsbD 0 = v.getLsbD 0 := by
  simp only [sext, BitVec.getLsbD_signExtend, h]
  simp

/-- A CSR word with `funct3` other than 0 is none of the five named words. -/
theorem encCsr_ne {f3 : Funct3} (h : f3 ≠ 0#3) (csr : CsrIndex) (rs1 rd : RegId) {w : Word} (hw : funct3Of w = 0#3) :
    encCsr csr rs1 f3 rd ≠ w := by
  rintro rfl
  exact h ((encCsr_fields csr rs1 f3 rd).2.2.1.symm.trans hw)

end Sys2Proof
end

