-- ==== Sys2Proof/Laws/Table.lean ====
section
/-! SUPPORT. A row's mask and pattern as equations between fields: one lemma for each mask of opcode_table.json. -/

namespace Sys2Proof

/-- A masked word equals a pattern that lies under the mask exactly where their bits agree under the mask. -/
theorem and_mask_iff (w m p : Word) (hp : p &&& m = p) :
    w &&& m = p ↔ ∀ i, i < 32 → m.getLsbD i = true → w.getLsbD i = p.getLsbD i := by
  constructor
  · rintro rfl i hi hm
    simp [BitVec.getLsbD_and, hm]
  · intro h
    rw [← hp]
    apply BitVec.eq_of_getLsbD_eq
    intro i hi
    rw [BitVec.getLsbD_and, BitVec.getLsbD_and]
    by_cases hm : m.getLsbD i = true
    · rw [h i hi hm]
    · simp [hm]

/-- Two words have a field in common exactly where their bits agree over it. -/
theorem field_eq_iff (w p : Word) (lo len : Nat) :
    w.extractLsb' lo len = p.extractLsb' lo len ↔
      ∀ i, lo ≤ i → i < lo + len → w.getLsbD i = p.getLsbD i := by
  constructor
  · intro h i hlo hhi
    have := congrArg (fun v => v.getLsbD (i - lo)) h
    simpa [show i - lo < len by omega, show lo + (i - lo) = i by omega] using this
  · intro h
    apply BitVec.eq_of_getLsbD_eq
    intro i hi
    simp [hi, h (lo + i) (by omega) (by omega)]

/-- A mask made of one field. -/
theorem mask_one (w m p : Word) (hp : p &&& m = p) (lo len : Nat)
    (hm : ∀ i : Fin 32, m.getLsbD i = true ↔ lo ≤ i.val ∧ i.val < lo + len) (hb : lo + len ≤ 32) :
    w &&& m = p ↔ w.extractLsb' lo len = p.extractLsb' lo len := by
  rw [and_mask_iff w m p hp, field_eq_iff]
  constructor
  · intro h i h1 h2
    exact h i (by omega) ((hm ⟨i, by omega⟩).2 ⟨h1, h2⟩)
  · intro h i hi hbit
    have := (hm ⟨i, hi⟩).1 hbit
    exact h i this.1 this.2

/-- A mask made of two fields. -/
theorem mask_two (w m p : Word) (hp : p &&& m = p) (lo len lo' len' : Nat)
    (hm : ∀ i : Fin 32, m.getLsbD i = true ↔ (lo ≤ i.val ∧ i.val < lo + len) ∨ (lo' ≤ i.val ∧ i.val < lo' + len'))
    (hb : lo + len ≤ 32) (hb' : lo' + len' ≤ 32) :
    w &&& m = p ↔
      w.extractLsb' lo len = p.extractLsb' lo len ∧ w.extractLsb' lo' len' = p.extractLsb' lo' len' := by
  rw [and_mask_iff w m p hp, field_eq_iff, field_eq_iff]
  constructor
  · intro h
    exact ⟨fun i h1 h2 => h i (by omega) ((hm ⟨i, by omega⟩).2 (.inl ⟨h1, h2⟩)),
      fun i h1 h2 => h i (by omega) ((hm ⟨i, by omega⟩).2 (.inr ⟨h1, h2⟩))⟩
  · rintro ⟨h1, h2⟩ i hi hbit
    rcases (hm ⟨i, hi⟩).1 hbit with h | h
    · exact h1 i h.1 h.2
    · exact h2 i h.1 h.2

/-- A mask made of three fields. -/
theorem mask_three (w m p : Word) (hp : p &&& m = p) (lo len lo' len' lo'' len'' : Nat)
    (hm : ∀ i : Fin 32, m.getLsbD i = true ↔ (lo ≤ i.val ∧ i.val < lo + len) ∨
      (lo' ≤ i.val ∧ i.val < lo' + len') ∨ (lo'' ≤ i.val ∧ i.val < lo'' + len''))
    (hb : lo + len ≤ 32) (hb' : lo' + len' ≤ 32) (hb'' : lo'' + len'' ≤ 32) :
    w &&& m = p ↔
      w.extractLsb' lo len = p.extractLsb' lo len ∧ w.extractLsb' lo' len' = p.extractLsb' lo' len' ∧
        w.extractLsb' lo'' len'' = p.extractLsb' lo'' len'' := by
  rw [and_mask_iff w m p hp, field_eq_iff, field_eq_iff, field_eq_iff]
  constructor
  · intro h
    exact ⟨fun i h1 h2 => h i (by omega) ((hm ⟨i, by omega⟩).2 (.inl ⟨h1, h2⟩)),
      fun i h1 h2 => h i (by omega) ((hm ⟨i, by omega⟩).2 (.inr (.inl ⟨h1, h2⟩))),
      fun i h1 h2 => h i (by omega) ((hm ⟨i, by omega⟩).2 (.inr (.inr ⟨h1, h2⟩)))⟩
  · rintro ⟨h1, h2, h3⟩ i hi hbit
    rcases (hm ⟨i, hi⟩).1 hbit with h | h | h
    · exact h1 i h.1 h.2
    · exact h2 i h.1 h.2
    · exact h3 i h.1 h.2

/-! ## The masks of the table -/

/-- opcode and funct3. -/
theorem mask_707F (w p : Word) (hp : p &&& 0x0000707F#32 = p) :
    w &&& 0x0000707F#32 = p ↔ opcodeOf w = opcodeOf p ∧ funct3Of w = funct3Of p :=
  mask_two w _ p hp 0 7 12 3 (by decide) (by omega) (by omega)

/-- opcode, funct3 and the extra select bit. -/
theorem mask_4000707F (w p : Word) (hp : p &&& 0x4000707F#32 = p) :
    w &&& 0x4000707F#32 = p ↔ opcodeOf w = opcodeOf p ∧ funct3Of w = funct3Of p ∧ selOf w = selOf p := by
  have e : ∀ a b : Word, a.extractLsb' 30 1 = b.extractLsb' 30 1 ↔ selOf a = selOf b := by
    intro a b
    rw [field_eq_iff]
    constructor
    · intro h; exact h 30 (by omega) (by omega)
    · intro h i h1 h2
      rw [show i = 30 by omega]; exact h
  rw [mask_three w _ p hp 0 7 12 3 30 1 (by decide) (by omega) (by omega) (by omega), e]
  rfl

/-- opcode. -/
theorem mask_7F (w p : Word) (hp : p &&& 0x0000007F#32 = p) : w &&& 0x0000007F#32 = p ↔ opcodeOf w = opcodeOf p :=
  mask_one w _ p hp 0 7 (by decide) (by omega)

/-- A field of `funct3`. -/
theorem funct3_field (w : Word) (lo len : Nat) (h : lo + len ≤ 3) :
    w.extractLsb' (12 + lo) len = (funct3Of w).extractLsb' lo len := by
  apply BitVec.eq_of_getLsbD_eq
  intro i hi
  simp only [funct3Of, BitVec.getLsbD_extractLsb']
  simp [hi, show lo + i < 3 by omega, Nat.add_assoc]

/-- opcode and the two high bits of funct3. -/
theorem mask_607F (w p : Word) (hp : p &&& 0x0000607F#32 = p) :
    w &&& 0x0000607F#32 = p ↔
      opcodeOf w = opcodeOf p ∧ (funct3Of w).extractLsb' 1 2 = (funct3Of p).extractLsb' 1 2 := by
  rw [mask_two w _ p hp 0 7 13 2 (by decide) (by omega) (by omega), ← funct3_field w 1 2 (by omega),
    ← funct3_field p 1 2 (by omega)]
  rfl

/-- opcode and the high bit of funct3. -/
theorem mask_407F (w p : Word) (hp : p &&& 0x0000407F#32 = p) :
    w &&& 0x0000407F#32 = p ↔
      opcodeOf w = opcodeOf p ∧ (funct3Of w).extractLsb' 2 1 = (funct3Of p).extractLsb' 2 1 := by
  rw [mask_two w _ p hp 0 7 14 1 (by decide) (by omega) (by omega), ← funct3_field w 2 1 (by omega),
    ← funct3_field p 2 1 (by omega)]
  rfl

/-- opcode, funct3 and rd. -/
theorem mask_7FFF (w p : Word) (hp : p &&& 0x00007FFF#32 = p) :
    w &&& 0x00007FFF#32 = p ↔ opcodeOf w = opcodeOf p ∧ funct3Of w = funct3Of p ∧ rdOf w = rdOf p :=
  mask_three w _ p hp 0 7 12 3 7 5 (by decide) (by omega) (by omega) (by omega)

/-- opcode, funct3 and rs1. -/
theorem mask_FF07F (w p : Word) (hp : p &&& 0x000FF07F#32 = p) :
    w &&& 0x000FF07F#32 = p ↔ opcodeOf w = opcodeOf p ∧ funct3Of w = funct3Of p ∧ rs1Of w = rs1Of p :=
  mask_three w _ p hp 0 7 12 3 15 5 (by decide) (by omega) (by omega) (by omega)

/-- The whole word. -/
theorem mask_FFFFFFFF (w : Word) : w &&& 0xFFFFFFFF#32 = w := BitVec.and_allOnes

/-- No bit. -/
theorem mask_0 (w : Word) : w &&& 0x00000000#32 = 0x00000000#32 := BitVec.and_zero

end Sys2Proof
end

