-- ==== Sys2Proof/Laws/PerInstr.lean ====
section
/-! SUPPORT. Statements about every instruction as syntax, one lemma per constructor. The family OwnRow: the word the encoder
makes of an instruction lies in the row of opcode_table.json that bears the instruction's mnemonic (30_encoding.md R86). -/

namespace Sys2Proof.Laws.OwnRow

/-- The encoding of `i` has the pattern of a row with `i`'s own mnemonic. -/
def Statement (i : Instr) : Prop :=
  ∃ r ∈ opcodeRows, r.mnemonic = i.mnemonic ∧ encode i &&& r.mask = r.pattern

/-- A row and a word under it. -/
theorem of_row {i : Instr} (r : OpcodeRow) (h : r ∈ opcodeRows) (hm : r.mnemonic = i.mnemonic)
    (he : encode i &&& r.mask = r.pattern) : Statement i := ⟨r, h, hm, he⟩

theorem addi (rd : RegId) (rs1 : RegId) (imm : Word) : Statement (.addi rd rs1 imm) :=
  of_row ⟨"ADDI", 0x0000707F#32, 0x00000013#32⟩ (by decide) rfl
    ((mask_707F _ _ (by decide)).2
     ⟨(encI_fields imm rs1 0#3 rd 0x13#7).1.trans (by decide),
      (encI_fields imm rs1 0#3 rd 0x13#7).2.2.1.trans (by decide)⟩)

theorem slti (rd : RegId) (rs1 : RegId) (imm : Word) : Statement (.slti rd rs1 imm) :=
  of_row ⟨"SLTI", 0x0000707F#32, 0x00002013#32⟩ (by decide) rfl
    ((mask_707F _ _ (by decide)).2
     ⟨(encI_fields imm rs1 2#3 rd 0x13#7).1.trans (by decide),
      (encI_fields imm rs1 2#3 rd 0x13#7).2.2.1.trans (by decide)⟩)

theorem sltiu (rd : RegId) (rs1 : RegId) (imm : Word) : Statement (.sltiu rd rs1 imm) :=
  of_row ⟨"SLTIU", 0x0000707F#32, 0x00003013#32⟩ (by decide) rfl
    ((mask_707F _ _ (by decide)).2
     ⟨(encI_fields imm rs1 3#3 rd 0x13#7).1.trans (by decide),
      (encI_fields imm rs1 3#3 rd 0x13#7).2.2.1.trans (by decide)⟩)

theorem xori (rd : RegId) (rs1 : RegId) (imm : Word) : Statement (.xori rd rs1 imm) :=
  of_row ⟨"XORI", 0x0000707F#32, 0x00004013#32⟩ (by decide) rfl
    ((mask_707F _ _ (by decide)).2
     ⟨(encI_fields imm rs1 4#3 rd 0x13#7).1.trans (by decide),
      (encI_fields imm rs1 4#3 rd 0x13#7).2.2.1.trans (by decide)⟩)

theorem ori (rd : RegId) (rs1 : RegId) (imm : Word) : Statement (.ori rd rs1 imm) :=
  of_row ⟨"ORI", 0x0000707F#32, 0x00006013#32⟩ (by decide) rfl
    ((mask_707F _ _ (by decide)).2
     ⟨(encI_fields imm rs1 6#3 rd 0x13#7).1.trans (by decide),
      (encI_fields imm rs1 6#3 rd 0x13#7).2.2.1.trans (by decide)⟩)

theorem andi (rd : RegId) (rs1 : RegId) (imm : Word) : Statement (.andi rd rs1 imm) :=
  of_row ⟨"ANDI", 0x0000707F#32, 0x00007013#32⟩ (by decide) rfl
    ((mask_707F _ _ (by decide)).2
     ⟨(encI_fields imm rs1 7#3 rd 0x13#7).1.trans (by decide),
      (encI_fields imm rs1 7#3 rd 0x13#7).2.2.1.trans (by decide)⟩)

theorem slli (rd : RegId) (rs1 : RegId) (imm : Word) : Statement (.slli rd rs1 imm) :=
  of_row ⟨"SLLI", 0x0000707F#32, 0x00001013#32⟩ (by decide) rfl
    ((mask_707F _ _ (by decide)).2
     ⟨(encI_fields imm rs1 1#3 rd 0x13#7).1.trans (by decide),
      (encI_fields imm rs1 1#3 rd 0x13#7).2.2.1.trans (by decide)⟩)

theorem srai (rd : RegId) (rs1 : RegId) (imm : Word) : Statement (.srai rd rs1 imm) :=
  of_row ⟨"SRAI", 0x4000707F#32, 0x40005013#32⟩ (by decide) rfl
    ((mask_4000707F _ _ (by decide)).2
     ⟨(encR_fields 0x20#7 (imm.extractLsb' 0 5) rs1 5#3 rd 0x13#7).1.trans (by decide),
      (encR_fields 0x20#7 (imm.extractLsb' 0 5) rs1 5#3 rd 0x13#7).2.2.1.trans (by decide),
      (encR_fields 0x20#7 (imm.extractLsb' 0 5) rs1 5#3 rd 0x13#7).2.2.2.2.2.trans (by decide)⟩)

theorem srli (rd : RegId) (rs1 : RegId) (imm : Word) : Statement (.srli rd rs1 imm) :=
  of_row ⟨"SRLI", 0x4000707F#32, 0x00005013#32⟩ (by decide) rfl
    ((mask_4000707F _ _ (by decide)).2
     ⟨(encR_fields 0#7 (imm.extractLsb' 0 5) rs1 5#3 rd 0x13#7).1.trans (by decide),
      (encR_fields 0#7 (imm.extractLsb' 0 5) rs1 5#3 rd 0x13#7).2.2.1.trans (by decide),
      (encR_fields 0#7 (imm.extractLsb' 0 5) rs1 5#3 rd 0x13#7).2.2.2.2.2.trans (by decide)⟩)

theorem sub (rd : RegId) (rs1 : RegId) (rs2 : RegId) : Statement (.sub rd rs1 rs2) :=
  of_row ⟨"SUB", 0x4000707F#32, 0x40000033#32⟩ (by decide) rfl
    ((mask_4000707F _ _ (by decide)).2
     ⟨(encR_fields 0x20#7 rs2 rs1 0#3 rd 0x33#7).1.trans (by decide),
      (encR_fields 0x20#7 rs2 rs1 0#3 rd 0x33#7).2.2.1.trans (by decide),
      (encR_fields 0x20#7 rs2 rs1 0#3 rd 0x33#7).2.2.2.2.2.trans (by decide)⟩)

theorem add (rd : RegId) (rs1 : RegId) (rs2 : RegId) : Statement (.add rd rs1 rs2) :=
  of_row ⟨"ADD", 0x4000707F#32, 0x00000033#32⟩ (by decide) rfl
    ((mask_4000707F _ _ (by decide)).2
     ⟨(encR_fields 0#7 rs2 rs1 0#3 rd 0x33#7).1.trans (by decide),
      (encR_fields 0#7 rs2 rs1 0#3 rd 0x33#7).2.2.1.trans (by decide),
      (encR_fields 0#7 rs2 rs1 0#3 rd 0x33#7).2.2.2.2.2.trans (by decide)⟩)

theorem sll (rd : RegId) (rs1 : RegId) (rs2 : RegId) : Statement (.sll rd rs1 rs2) :=
  of_row ⟨"SLL", 0x0000707F#32, 0x00001033#32⟩ (by decide) rfl
    ((mask_707F _ _ (by decide)).2
     ⟨(encR_fields 0#7 rs2 rs1 1#3 rd 0x33#7).1.trans (by decide),
      (encR_fields 0#7 rs2 rs1 1#3 rd 0x33#7).2.2.1.trans (by decide)⟩)

theorem slt (rd : RegId) (rs1 : RegId) (rs2 : RegId) : Statement (.slt rd rs1 rs2) :=
  of_row ⟨"SLT", 0x0000707F#32, 0x00002033#32⟩ (by decide) rfl
    ((mask_707F _ _ (by decide)).2
     ⟨(encR_fields 0#7 rs2 rs1 2#3 rd 0x33#7).1.trans (by decide),
      (encR_fields 0#7 rs2 rs1 2#3 rd 0x33#7).2.2.1.trans (by decide)⟩)

theorem sltu (rd : RegId) (rs1 : RegId) (rs2 : RegId) : Statement (.sltu rd rs1 rs2) :=
  of_row ⟨"SLTU", 0x0000707F#32, 0x00003033#32⟩ (by decide) rfl
    ((mask_707F _ _ (by decide)).2
     ⟨(encR_fields 0#7 rs2 rs1 3#3 rd 0x33#7).1.trans (by decide),
      (encR_fields 0#7 rs2 rs1 3#3 rd 0x33#7).2.2.1.trans (by decide)⟩)

theorem xor (rd : RegId) (rs1 : RegId) (rs2 : RegId) : Statement (.xor rd rs1 rs2) :=
  of_row ⟨"XOR", 0x0000707F#32, 0x00004033#32⟩ (by decide) rfl
    ((mask_707F _ _ (by decide)).2
     ⟨(encR_fields 0#7 rs2 rs1 4#3 rd 0x33#7).1.trans (by decide),
      (encR_fields 0#7 rs2 rs1 4#3 rd 0x33#7).2.2.1.trans (by decide)⟩)

theorem sra (rd : RegId) (rs1 : RegId) (rs2 : RegId) : Statement (.sra rd rs1 rs2) :=
  of_row ⟨"SRA", 0x4000707F#32, 0x40005033#32⟩ (by decide) rfl
    ((mask_4000707F _ _ (by decide)).2
     ⟨(encR_fields 0x20#7 rs2 rs1 5#3 rd 0x33#7).1.trans (by decide),
      (encR_fields 0x20#7 rs2 rs1 5#3 rd 0x33#7).2.2.1.trans (by decide),
      (encR_fields 0x20#7 rs2 rs1 5#3 rd 0x33#7).2.2.2.2.2.trans (by decide)⟩)

theorem srl (rd : RegId) (rs1 : RegId) (rs2 : RegId) : Statement (.srl rd rs1 rs2) :=
  of_row ⟨"SRL", 0x4000707F#32, 0x00005033#32⟩ (by decide) rfl
    ((mask_4000707F _ _ (by decide)).2
     ⟨(encR_fields 0#7 rs2 rs1 5#3 rd 0x33#7).1.trans (by decide),
      (encR_fields 0#7 rs2 rs1 5#3 rd 0x33#7).2.2.1.trans (by decide),
      (encR_fields 0#7 rs2 rs1 5#3 rd 0x33#7).2.2.2.2.2.trans (by decide)⟩)

theorem or (rd : RegId) (rs1 : RegId) (rs2 : RegId) : Statement (.or rd rs1 rs2) :=
  of_row ⟨"OR", 0x0000707F#32, 0x00006033#32⟩ (by decide) rfl
    ((mask_707F _ _ (by decide)).2
     ⟨(encR_fields 0#7 rs2 rs1 6#3 rd 0x33#7).1.trans (by decide),
      (encR_fields 0#7 rs2 rs1 6#3 rd 0x33#7).2.2.1.trans (by decide)⟩)

theorem and (rd : RegId) (rs1 : RegId) (rs2 : RegId) : Statement (.and rd rs1 rs2) :=
  of_row ⟨"AND", 0x0000707F#32, 0x00007033#32⟩ (by decide) rfl
    ((mask_707F _ _ (by decide)).2
     ⟨(encR_fields 0#7 rs2 rs1 7#3 rd 0x33#7).1.trans (by decide),
      (encR_fields 0#7 rs2 rs1 7#3 rd 0x33#7).2.2.1.trans (by decide)⟩)

theorem lui (rd : RegId) (imm : Word) : Statement (.lui rd imm) :=
  of_row ⟨"LUI", 0x0000007F#32, 0x00000037#32⟩ (by decide) rfl
    ((mask_7F _ _ (by decide)).2
      ((encU_fields imm rd 0x37#7).1.trans (by decide)))

theorem auipc (rd : RegId) (imm : Word) : Statement (.auipc rd imm) :=
  of_row ⟨"AUIPC", 0x0000007F#32, 0x00000017#32⟩ (by decide) rfl
    ((mask_7F _ _ (by decide)).2
      ((encU_fields imm rd 0x17#7).1.trans (by decide)))

theorem jal (rd : RegId) (imm : Word) : Statement (.jal rd imm) :=
  of_row ⟨"JAL", 0x0000007F#32, 0x0000006F#32⟩ (by decide) rfl
    ((mask_7F _ _ (by decide)).2
      ((encJ_fields imm rd).1.trans (by decide)))

theorem jalr (rd : RegId) (rs1 : RegId) (imm : Word) : Statement (.jalr rd rs1 imm) :=
  of_row ⟨"JALR", 0x0000007F#32, 0x00000067#32⟩ (by decide) rfl
    ((mask_7F _ _ (by decide)).2
      ((encI_fields imm rs1 0#3 rd 0x67#7).1.trans (by decide)))

theorem beq (rs1 : RegId) (rs2 : RegId) (imm : Word) : Statement (.beq rs1 rs2 imm) :=
  of_row ⟨"BEQ", 0x0000707F#32, 0x00000063#32⟩ (by decide) rfl
    ((mask_707F _ _ (by decide)).2
     ⟨(encB_fields imm rs2 rs1 0#3).1.trans (by decide),
      (encB_fields imm rs2 rs1 0#3).2.1.trans (by decide)⟩)

theorem bne (rs1 : RegId) (rs2 : RegId) (imm : Word) : Statement (.bne rs1 rs2 imm) :=
  of_row ⟨"BNE", 0x0000707F#32, 0x00001063#32⟩ (by decide) rfl
    ((mask_707F _ _ (by decide)).2
     ⟨(encB_fields imm rs2 rs1 1#3).1.trans (by decide),
      (encB_fields imm rs2 rs1 1#3).2.1.trans (by decide)⟩)

theorem blt (rs1 : RegId) (rs2 : RegId) (imm : Word) : Statement (.blt rs1 rs2 imm) :=
  of_row ⟨"BLT", 0x0000707F#32, 0x00004063#32⟩ (by decide) rfl
    ((mask_707F _ _ (by decide)).2
     ⟨(encB_fields imm rs2 rs1 4#3).1.trans (by decide),
      (encB_fields imm rs2 rs1 4#3).2.1.trans (by decide)⟩)

theorem bge (rs1 : RegId) (rs2 : RegId) (imm : Word) : Statement (.bge rs1 rs2 imm) :=
  of_row ⟨"BGE", 0x0000707F#32, 0x00005063#32⟩ (by decide) rfl
    ((mask_707F _ _ (by decide)).2
     ⟨(encB_fields imm rs2 rs1 5#3).1.trans (by decide),
      (encB_fields imm rs2 rs1 5#3).2.1.trans (by decide)⟩)

theorem bltu (rs1 : RegId) (rs2 : RegId) (imm : Word) : Statement (.bltu rs1 rs2 imm) :=
  of_row ⟨"BLTU", 0x0000707F#32, 0x00006063#32⟩ (by decide) rfl
    ((mask_707F _ _ (by decide)).2
     ⟨(encB_fields imm rs2 rs1 6#3).1.trans (by decide),
      (encB_fields imm rs2 rs1 6#3).2.1.trans (by decide)⟩)

theorem bgeu (rs1 : RegId) (rs2 : RegId) (imm : Word) : Statement (.bgeu rs1 rs2 imm) :=
  of_row ⟨"BGEU", 0x0000707F#32, 0x00007063#32⟩ (by decide) rfl
    ((mask_707F _ _ (by decide)).2
     ⟨(encB_fields imm rs2 rs1 7#3).1.trans (by decide),
      (encB_fields imm rs2 rs1 7#3).2.1.trans (by decide)⟩)

theorem branchF301x (rs1 : RegId) (rs2 : RegId) (imm : Word) : Statement (.branchF301x rs1 rs2 imm) :=
  of_row ⟨"BRANCH-f3-01x", 0x0000607F#32, 0x00002063#32⟩ (by decide) rfl
    ((mask_607F _ _ (by decide)).2
     ⟨(encB_fields imm rs2 rs1 2#3).1.trans (by decide),
      (congrArg _ (encB_fields imm rs2 rs1 2#3).2.1).trans (by decide)⟩)

theorem lb (rd : RegId) (rs1 : RegId) (imm : Word) : Statement (.lb rd rs1 imm) :=
  of_row ⟨"LB", 0x0000707F#32, 0x00000003#32⟩ (by decide) rfl
    ((mask_707F _ _ (by decide)).2
     ⟨(encI_fields imm rs1 0#3 rd 0x03#7).1.trans (by decide),
      (encI_fields imm rs1 0#3 rd 0x03#7).2.2.1.trans (by decide)⟩)

theorem lh (rd : RegId) (rs1 : RegId) (imm : Word) : Statement (.lh rd rs1 imm) :=
  of_row ⟨"LH", 0x0000707F#32, 0x00001003#32⟩ (by decide) rfl
    ((mask_707F _ _ (by decide)).2
     ⟨(encI_fields imm rs1 1#3 rd 0x03#7).1.trans (by decide),
      (encI_fields imm rs1 1#3 rd 0x03#7).2.2.1.trans (by decide)⟩)

theorem lw (rd : RegId) (rs1 : RegId) (imm : Word) : Statement (.lw rd rs1 imm) :=
  of_row ⟨"LW", 0x0000707F#32, 0x00002003#32⟩ (by decide) rfl
    ((mask_707F _ _ (by decide)).2
     ⟨(encI_fields imm rs1 2#3 rd 0x03#7).1.trans (by decide),
      (encI_fields imm rs1 2#3 rd 0x03#7).2.2.1.trans (by decide)⟩)

theorem loadF3011 (rd : RegId) (rs1 : RegId) (imm : Word) : Statement (.loadF3011 rd rs1 imm) :=
  of_row ⟨"LOAD-f3-011", 0x0000707F#32, 0x00003003#32⟩ (by decide) rfl
    ((mask_707F _ _ (by decide)).2
     ⟨(encI_fields imm rs1 3#3 rd 0x03#7).1.trans (by decide),
      (encI_fields imm rs1 3#3 rd 0x03#7).2.2.1.trans (by decide)⟩)

theorem lbu (rd : RegId) (rs1 : RegId) (imm : Word) : Statement (.lbu rd rs1 imm) :=
  of_row ⟨"LBU", 0x0000707F#32, 0x00004003#32⟩ (by decide) rfl
    ((mask_707F _ _ (by decide)).2
     ⟨(encI_fields imm rs1 4#3 rd 0x03#7).1.trans (by decide),
      (encI_fields imm rs1 4#3 rd 0x03#7).2.2.1.trans (by decide)⟩)

theorem lhu (rd : RegId) (rs1 : RegId) (imm : Word) : Statement (.lhu rd rs1 imm) :=
  of_row ⟨"LHU", 0x0000707F#32, 0x00005003#32⟩ (by decide) rfl
    ((mask_707F _ _ (by decide)).2
     ⟨(encI_fields imm rs1 5#3 rd 0x03#7).1.trans (by decide),
      (encI_fields imm rs1 5#3 rd 0x03#7).2.2.1.trans (by decide)⟩)

theorem loadF3110 (rd : RegId) (rs1 : RegId) (imm : Word) : Statement (.loadF3110 rd rs1 imm) :=
  of_row ⟨"LOAD-f3-110", 0x0000707F#32, 0x00006003#32⟩ (by decide) rfl
    ((mask_707F _ _ (by decide)).2
     ⟨(encI_fields imm rs1 6#3 rd 0x03#7).1.trans (by decide),
      (encI_fields imm rs1 6#3 rd 0x03#7).2.2.1.trans (by decide)⟩)

theorem loadF3111 (rd : RegId) (rs1 : RegId) (imm : Word) : Statement (.loadF3111 rd rs1 imm) :=
  of_row ⟨"LOAD-f3-111", 0x0000707F#32, 0x00007003#32⟩ (by decide) rfl
    ((mask_707F _ _ (by decide)).2
     ⟨(encI_fields imm rs1 7#3 rd 0x03#7).1.trans (by decide),
      (encI_fields imm rs1 7#3 rd 0x03#7).2.2.1.trans (by decide)⟩)

theorem sb (rs1 : RegId) (rs2 : RegId) (imm : Word) : Statement (.sb rs1 rs2 imm) :=
  of_row ⟨"SB", 0x0000707F#32, 0x00000023#32⟩ (by decide) rfl
    ((mask_707F _ _ (by decide)).2
     ⟨(encS_fields imm rs2 rs1 0#3 0x23#7).1.trans (by decide),
      (encS_fields imm rs2 rs1 0#3 0x23#7).2.1.trans (by decide)⟩)

theorem sh (rs1 : RegId) (rs2 : RegId) (imm : Word) : Statement (.sh rs1 rs2 imm) :=
  of_row ⟨"SH", 0x0000707F#32, 0x00001023#32⟩ (by decide) rfl
    ((mask_707F _ _ (by decide)).2
     ⟨(encS_fields imm rs2 rs1 1#3 0x23#7).1.trans (by decide),
      (encS_fields imm rs2 rs1 1#3 0x23#7).2.1.trans (by decide)⟩)

theorem sw (rs1 : RegId) (rs2 : RegId) (imm : Word) : Statement (.sw rs1 rs2 imm) :=
  of_row ⟨"SW", 0x0000707F#32, 0x00002023#32⟩ (by decide) rfl
    ((mask_707F _ _ (by decide)).2
     ⟨(encS_fields imm rs2 rs1 2#3 0x23#7).1.trans (by decide),
      (encS_fields imm rs2 rs1 2#3 0x23#7).2.1.trans (by decide)⟩)

theorem storeF3011 (rs1 : RegId) (rs2 : RegId) (imm : Word) : Statement (.storeF3011 rs1 rs2 imm) :=
  of_row ⟨"STORE-f3-011", 0x0000707F#32, 0x00003023#32⟩ (by decide) rfl
    ((mask_707F _ _ (by decide)).2
     ⟨(encS_fields imm rs2 rs1 3#3 0x23#7).1.trans (by decide),
      (encS_fields imm rs2 rs1 3#3 0x23#7).2.1.trans (by decide)⟩)

theorem storeF31xx (rs1 : RegId) (rs2 : RegId) (imm : Word) : Statement (.storeF31xx rs1 rs2 imm) :=
  of_row ⟨"STORE-f3-1xx", 0x0000407F#32, 0x00004023#32⟩ (by decide) rfl
    ((mask_407F _ _ (by decide)).2
     ⟨(encS_fields imm rs2 rs1 4#3 0x23#7).1.trans (by decide),
      (congrArg _ (encS_fields imm rs2 rs1 4#3 0x23#7).2.1).trans (by decide)⟩)

theorem csrrwRd0 (rs1 : RegId) (csr : CsrIndex) : Statement (.csrrwRd0 rs1 csr) :=
  of_row ⟨"CSRRW-rd0", 0x00007FFF#32, 0x00001073#32⟩ (by decide) rfl
    ((mask_7FFF _ _ (by decide)).2
     ⟨(encCsr_fields csr rs1 1#3 0#5).1.trans (by decide),
      (encCsr_fields csr rs1 1#3 0#5).2.2.1.trans (by decide),
      (encCsr_fields csr rs1 1#3 0#5).2.1.trans (by decide)⟩)

theorem csrrsRs10 (rd : RegId) (csr : CsrIndex) : Statement (.csrrsRs10 rd csr) :=
  of_row ⟨"CSRRS-rs10", 0x000FF07F#32, 0x00002073#32⟩ (by decide) rfl
    ((mask_FF07F _ _ (by decide)).2
     ⟨(encCsr_fields csr 0#5 2#3 rd).1.trans (by decide),
      (encCsr_fields csr 0#5 2#3 rd).2.2.1.trans (by decide),
      (encCsr_fields csr 0#5 2#3 rd).2.2.2.1.trans (by decide)⟩)

theorem ecall : Statement .ecall :=
  of_row ⟨"ECALL", 0xFFFFFFFF#32, 0x00000073#32⟩ (by decide) rfl
    (by decide)

theorem ebreak : Statement .ebreak :=
  of_row ⟨"EBREAK", 0xFFFFFFFF#32, 0x00100073#32⟩ (by decide) rfl
    (by decide)

theorem mret : Statement .mret :=
  of_row ⟨"MRET", 0xFFFFFFFF#32, 0x30200073#32⟩ (by decide) rfl
    (by decide)

theorem sret : Statement .sret :=
  of_row ⟨"SRET", 0xFFFFFFFF#32, 0x10200073#32⟩ (by decide) rfl
    (by decide)

theorem wfi : Statement .wfi :=
  of_row ⟨"WFI", 0xFFFFFFFF#32, 0x10500073#32⟩ (by decide) rfl
    (by decide)

theorem csrrw (rd : RegId) (rs1 : RegId) (csr : CsrIndex) : Statement (.csrrw rd rs1 csr) :=
  of_row ⟨"CSRRW", 0x0000707F#32, 0x00001073#32⟩ (by decide) rfl
    ((mask_707F _ _ (by decide)).2
     ⟨(encCsr_fields csr rs1 1#3 rd).1.trans (by decide),
      (encCsr_fields csr rs1 1#3 rd).2.2.1.trans (by decide)⟩)

theorem csrrs (rd : RegId) (rs1 : RegId) (csr : CsrIndex) : Statement (.csrrs rd rs1 csr) :=
  of_row ⟨"CSRRS", 0x0000707F#32, 0x00002073#32⟩ (by decide) rfl
    ((mask_707F _ _ (by decide)).2
     ⟨(encCsr_fields csr rs1 2#3 rd).1.trans (by decide),
      (encCsr_fields csr rs1 2#3 rd).2.2.1.trans (by decide)⟩)

theorem csrrc (rd : RegId) (rs1 : RegId) (csr : CsrIndex) : Statement (.csrrc rd rs1 csr) :=
  of_row ⟨"CSRRC", 0x0000707F#32, 0x00003073#32⟩ (by decide) rfl
    ((mask_707F _ _ (by decide)).2
     ⟨(encCsr_fields csr rs1 3#3 rd).1.trans (by decide),
      (encCsr_fields csr rs1 3#3 rd).2.2.1.trans (by decide)⟩)

theorem csrrwi (rd : RegId) (rs1 : RegId) (csr : CsrIndex) : Statement (.csrrwi rd rs1 csr) :=
  of_row ⟨"CSRRWI", 0x0000707F#32, 0x00005073#32⟩ (by decide) rfl
    ((mask_707F _ _ (by decide)).2
     ⟨(encCsr_fields csr rs1 5#3 rd).1.trans (by decide),
      (encCsr_fields csr rs1 5#3 rd).2.2.1.trans (by decide)⟩)

theorem csrrsi (rd : RegId) (rs1 : RegId) (csr : CsrIndex) : Statement (.csrrsi rd rs1 csr) :=
  of_row ⟨"CSRRSI", 0x0000707F#32, 0x00006073#32⟩ (by decide) rfl
    ((mask_707F _ _ (by decide)).2
     ⟨(encCsr_fields csr rs1 6#3 rd).1.trans (by decide),
      (encCsr_fields csr rs1 6#3 rd).2.2.1.trans (by decide)⟩)

theorem csrrci (rd : RegId) (rs1 : RegId) (csr : CsrIndex) : Statement (.csrrci rd rs1 csr) :=
  of_row ⟨"CSRRCI", 0x0000707F#32, 0x00007073#32⟩ (by decide) rfl
    ((mask_707F _ _ (by decide)).2
     ⟨(encCsr_fields csr rs1 7#3 rd).1.trans (by decide),
      (encCsr_fields csr rs1 7#3 rd).2.2.1.trans (by decide)⟩)

theorem systemOther (rd : RegId) (rs1 : RegId) (csr : CsrIndex) : Statement (.systemOther rd rs1 csr) :=
  of_row ⟨"SYSTEM-other", 0x0000007F#32, 0x00000073#32⟩ (by decide) rfl
    ((mask_7F _ _ (by decide)).2
      ((encCsr_fields csr rs1 4#3 rd).1.trans (by decide)))

theorem miscMem : Statement .miscMem :=
  of_row ⟨"MISC-MEM", 0x0000007F#32, 0x0000000F#32⟩ (by decide) rfl
    (by decide)

theorem amo : Statement .amo :=
  of_row ⟨"AMO", 0x0000007F#32, 0x0000002F#32⟩ (by decide) rfl
    (by decide)

theorem unrecognized : Statement .unrecognized :=
  of_row ⟨"UNRECOGNIZED", 0x00000000#32, 0x00000000#32⟩ (by decide) rfl
    (by decide)

end Sys2Proof.Laws.OwnRow
end

