-- ==== Sys2Proof/Laws/Ports.lean ====
section
/-! SUPPORT. The ports of the block, said once: what they are on the values a step reads for its word. -/

namespace Sys2Proof.Machine

/-- On the fetched word, the operand and CSR values the step reads for it, and memory data `r`, every output is a field of
the executed record or one of the enables of R112 to R115 (R119). -/
theorem block_eq_executed {w : Word} {d : Decoded} (hd : decodeRecord w = d) (s : State) (r : Word) :
    block s.pc ⟨w, readSource s d.rs1, readSource s d.rs2, (readCsr d s.csr).1, r⟩ =
      { pc := s.pc
        kind := d.kind
        aluOp := d.aluOp
        brCond := d.brCond
        rd := d.rd
        rs1 := d.rs1
        rs2 := d.rs2
        imm := d.imm
        csrIdx := d.csrIdx
        csrRe := readsCsr d.kind
        aluOut := aluOut (d.bind s)
        result := (executed d s).result
        memAddr := (executed d s).addr.getD 0
        memRe := decide (d.kind = .load)
        memWe := decide (d.kind = .store)
        memWdata := readSource s d.rs2
        gprWe := d.rd.isSome && writesRegister d.kind
        gprWdata := if d.kind = .load then r else (executed d s).result
        csrWe := decide (d.kind = .csrWrite)
        csrWdata := readSource s d.rs1
        instret := true
        nextPc := (executed d s).nextPc } := by
  subst hd; rfl

end Sys2Proof.Machine
end

