-- ==== Sys2Proof/Laws/Records.lean ====
section
/-! SUPPORT. What each record builder's record does when it is run: one lemma for each instruction class, which says once
everything the class can do to the state. -/

namespace Sys2Proof.Machine

/-- A record that writes no memory and no CSR, reads no CSR and is no no-op completes with its register write. -/
theorem runRecord_compute {d : Decoded} {s : State} (hn : isNoOp d = false) (ha : accessesMemory d.kind = false)
    (hc : readsCsr d.kind = false) :
    runRecord d s =
      .next ((writeBack (executed d s) (wbSelect (d.bind s) (aluOut (d.bind s)) s.pc) s).retire (pcMux (d.bind s) s.pc)) := by
  have hk : d.kind ≠ .csrWrite := by intro h; simp [h, readsCsr] at hc
  have hs : d.kind ≠ .store := by intro h; simp [h, accessesMemory] at ha
  have hl : d.kind ≠ .load := by intro h; simp [h, accessesMemory] at ha
  rw [runRecord_eq_next]
  refine ⟨by simp [hn], recordFault_none ha, ?_⟩
  have hw : wbData (executed d s) s.mem = (executed d s).result := by
    unfold wbData
    split
    · rename_i h _; exact absurd h hl
    · rfl
  simp only [commit, hw, readCsr_other (d := executed d s) hc, storePhase_other (d := executed d s) hs]
  rw [csrWritePhase_other (d := executed d s) hk]
  rfl

/-- The register write of a record whose destination is `rd`, normalized. -/
theorem writeBack_normalized {d : Decoded} {rd : RegId} (hd : d.rd = if rd = 0#5 then none else some rd)
    (hw : writesRegister d.kind = true) (v : Word) (s : State) : writeBack d v s = s.setReg rd v := by
  unfold writeBack
  by_cases h : rd = 0#5
  · simp [hd, h]
  · simp [hd, hw, h]

/-- The register write of a record with no destination. -/
theorem writeBack_none {d : Decoded} (hd : d.rd = none) (v : Word) (s : State) : writeBack d v s = s := by
  unfold writeBack
  simp [hd]

/-- The destination after normalization (R106). -/
theorem normalize_rd {d : Decoded} {rd : RegId} (h : d.rd = some rd) :
    d.normalize.rd = if rd = 0#5 then none else some rd := by
  by_cases h0 : rd = 0#5 <;> simp [Decoded.normalize, h, h0]

/-- Normalization changes only the destination (R106). -/
theorem normalize_eq (d : Decoded) : d.normalize = { d with rd := d.normalize.rd } := by
  unfold Decoded.normalize; split <;> rfl

@[simp] theorem normalize_kind (d : Decoded) : d.normalize.kind = d.kind := by unfold Decoded.normalize; split <;> rfl

@[simp] theorem normalize_aluOp (d : Decoded) : d.normalize.aluOp = d.aluOp := by unfold Decoded.normalize; split <;> rfl

@[simp] theorem normalize_brCond (d : Decoded) : d.normalize.brCond = d.brCond := by unfold Decoded.normalize; split <;> rfl

@[simp] theorem normalize_rs1 (d : Decoded) : d.normalize.rs1 = d.rs1 := by unfold Decoded.normalize; split <;> rfl

@[simp] theorem normalize_rs2 (d : Decoded) : d.normalize.rs2 = d.rs2 := by unfold Decoded.normalize; split <;> rfl

@[simp] theorem normalize_imm (d : Decoded) : d.normalize.imm = d.imm := by unfold Decoded.normalize; split <;> rfl

@[simp] theorem normalize_csrIdx (d : Decoded) : d.normalize.csrIdx = d.csrIdx := by unfold Decoded.normalize; split <;> rfl

@[simp] theorem normalize_rs1Val (d : Decoded) : d.normalize.rs1Val = d.rs1Val := by unfold Decoded.normalize; split <;> rfl

@[simp] theorem normalize_rs2Val (d : Decoded) : d.normalize.rs2Val = d.rs2Val := by unfold Decoded.normalize; split <;> rfl

@[simp] theorem normalize_csrVal (d : Decoded) : d.normalize.csrVal = d.csrVal := by unfold Decoded.normalize; split <;> rfl

/-- A computing record with a destination: the value the kind selects goes to `rd`. -/
theorem runRecord_writes {d : Decoded} {s : State} {rd : RegId} (hd : d.rd = some rd)
    (hn : isNoOp d = false) (ha : accessesMemory d.kind = false) (hc : readsCsr d.kind = false)
    (hw : writesRegister d.kind = true) :
    runRecord d.normalize s =
      .next ((s.setReg rd (wbSelect (d.normalize.bind s) (aluOut (d.normalize.bind s)) s.pc)).retire
        (pcMux (d.normalize.bind s) s.pc)) := by
  have hn' : isNoOp d.normalize = false := by simpa [isNoOp] using hn
  rw [runRecord_compute hn' (by simpa using ha) (by simpa using hc),
    writeBack_normalized (d := executed d.normalize s) (rd := rd) (normalize_rd hd) (by simpa using hw)]

/-! ## The classes -/

/-- OP-IMM (R141): any operation, any operands. -/
theorem runRecord_opImm (op : AluOp) (rd rs1 : RegId) (imm : Word) (s : State) :
    runRecord (opImmRecord op rd rs1 imm) s = .next ((s.setReg rd (alu op (s.getReg rs1) imm)).retire (s.pc + 4)) := by
  unfold opImmRecord
  rw [runRecord_writes (rd := rd) rfl rfl rfl rfl rfl]
  simp [wbSelect, pcMux, aluOut, rightOperand, Decoded.bind, readSource]

/-- OP (R151). -/
theorem runRecord_op (op : AluOp) (rd rs1 rs2 : RegId) (s : State) :
    runRecord (opRecord op rd rs1 rs2) s =
      .next ((s.setReg rd (alu op (s.getReg rs1) (s.getReg rs2))).retire (s.pc + 4)) := by
  unfold opRecord
  rw [runRecord_writes (rd := rd) rfl rfl rfl rfl rfl]
  simp [wbSelect, pcMux, aluOut, rightOperand, Decoded.bind, readSource, blankRecord]

/-- LUI (R162): the ALU adds the immediate to the value of `x0`. -/
theorem runRecord_lui (rd : RegId) (imm : Word) (s : State) :
    runRecord (luiRecord rd imm) s = .next ((s.setReg rd (alu .add 0 imm)).retire (s.pc + 4)) := by
  unfold luiRecord
  rw [runRecord_writes (rd := rd) rfl rfl rfl rfl rfl]
  simp [wbSelect, pcMux, aluOut, rightOperand, Decoded.bind, readSource]

/-- AUIPC (R163). -/
theorem runRecord_auipc (rd : RegId) (imm : Word) (s : State) :
    runRecord (auipcRecord rd imm) s = .next ((s.setReg rd (s.pc + imm)).retire (s.pc + 4)) := by
  unfold auipcRecord
  rw [runRecord_writes (rd := rd) rfl rfl rfl rfl rfl]
  simp [wbSelect, pcMux, immValue, Decoded.bind]

/-- JAL (R182). -/
theorem runRecord_jal (rd : RegId) (imm : Word) (s : State) :
    runRecord (jalRecord rd imm) s = .next ((s.setReg rd (s.pc + 4)).retire (s.pc + imm)) := by
  unfold jalRecord
  rw [runRecord_writes (rd := rd) rfl rfl rfl rfl rfl]
  simp [wbSelect, pcMux, immValue, Decoded.bind, evalCond]

/-- JALR (R183). -/
theorem runRecord_jalr (rd rs1 : RegId) (imm : Word) (s : State) :
    runRecord (jalrRecord rd rs1 imm) s = .next ((s.setReg rd (s.pc + 4)).retire (s.getReg rs1 + imm)) := by
  unfold jalrRecord
  rw [runRecord_writes (rd := rd) rfl rfl rfl rfl rfl]
  simp [wbSelect, pcMux, immValue, Decoded.bind, evalCond, readSource]

/-- BRANCH with a condition other than Never (R184). -/
theorem runRecord_branch {c : BrCond} (hc : c ≠ .never) (rs1 rs2 : RegId) (imm : Word) (s : State) :
    runRecord (branchRecord c rs1 rs2 imm) s =
      .next (s.retire (if evalCond c (s.getReg rs1) (s.getReg rs2) then s.pc + imm else s.pc + 4)) := by
  unfold branchRecord
  rw [runRecord_compute (by simp [isNoOp, hc]) (by simp [accessesMemory]) (by simp [readsCsr]),
    writeBack_none (d := executed _ s) rfl]
  simp [pcMux, immValue, Decoded.bind, readSource]

/-- A no-op record, where no-ops are not refused (R112, R120, R181). -/
theorem runRecord_noOp {d : Decoded} {s : State} (hr : s.params.refuseUnsupported = false) (hn : isNoOp d = true) :
    runRecord d s = .next (s.retire (s.pc + 4)) := by
  have ha : accessesMemory d.kind = false := by
    cases hk : d.kind <;> simp_all [isNoOp, accessesMemory]
  have hw : writesRegister d.kind = false := by
    cases hk : d.kind <;> simp_all [isNoOp, writesRegister]
  have hc : readsCsr d.kind = false := by
    cases hk : d.kind <;> simp_all [isNoOp, readsCsr]
  have hp : pcMux (d.bind s) s.pc = s.pc + 4 := by
    cases hk : d.kind <;> simp_all [isNoOp, pcMux, Decoded.bind, evalCond]
  rw [runRecord_eq_next]
  refine ⟨by simp [hr], recordFault_none ha, ?_⟩
  have hk : d.kind ≠ .csrWrite := by intro h; simp [h, readsCsr] at hc
  have hs : d.kind ≠ .store := by intro h; simp [h, accessesMemory] at ha
  have hb : ∀ v t, writeBack (executed d s) v t = t := by
    intro v t
    unfold writeBack
    rw [executed_kind, hw]
  simp only [commit, readCsr_other (d := executed d s) hc, storePhase_other (d := executed d s) hs, hb]
  rw [csrWritePhase_other (d := executed d s) hk, executed_nextPc, hp]

/-- LW (R211): its fault, or the loaded word. -/
theorem runRecord_load (rd rs1 : RegId) (imm : Word) (s : State) :
    runRecord (loadRecord .load rd rs1 imm) s =
      match dataFault s.params (s.getReg rs1 + imm) with
      | some f => .fault f
      | none => .next ((s.setReg rd (s.mem.readWord (s.getReg rs1 + imm))).retire (s.pc + 4)) := by
  have he : (executed (loadRecord .load rd rs1 imm) s).addr = some (s.getReg rs1 + imm) := by
    simp [executed_addr, loadRecord, accessesMemory, aluOut, rightOperand, Decoded.bind, readSource, alu]
  have hd : (executed (loadRecord .load rd rs1 imm) s).rd = if rd = 0#5 then none else some rd := normalize_rd rfl
  have hk : (loadRecord .load rd rs1 imm).kind = .load := by simp [loadRecord]
  have hn : isNoOp (loadRecord .load rd rs1 imm) = false := by simp [loadRecord, isNoOp]
  unfold runRecord
  simp only [hn, Bool.and_false, Bool.false_eq_true, if_false, recordFault, he]
  cases dataFault s.params (s.getReg rs1 + imm) with
  | some f => rfl
  | none =>
    have hp : (executed (loadRecord .load rd rs1 imm) s).nextPc = s.pc + 4 := by
      simp [executed_nextPc, loadRecord, pcMux, Decoded.bind]
    simp only [commit, hp]
    rw [writeBack_normalized hd (by simp [hk, writesRegister]), readCsr_other (by simp [hk, readsCsr]),
      storePhase_other (by simp [hk]), csrWritePhase_other (by simp [hk])]
    simp only [wbData, he, executed_kind, hk]

/-- SW (R214): its fault, or the stored word. -/
theorem runRecord_store (rs1 rs2 : RegId) (imm : Word) (s : State) :
    runRecord (storeRecord .store rs1 rs2 imm) s =
      match dataFault s.params (s.getReg rs1 + imm) with
      | some f => .fault f
      | none =>
        .next (State.retire { s with mem := s.mem.writeWord (s.getReg rs1 + imm) (s.getReg rs2) } (s.pc + 4)) := by
  have he : (executed (storeRecord .store rs1 rs2 imm) s).addr = some (s.getReg rs1 + imm) := by
    simp [executed_addr, storeRecord, accessesMemory, aluOut, rightOperand, Decoded.bind, readSource, alu]
  have hk : (storeRecord .store rs1 rs2 imm).kind = .store := by simp [storeRecord]
  have hd : (executed (storeRecord .store rs1 rs2 imm) s).rd = none := by
    simp [storeRecord, Decoded.normalize, blankRecord]
  have hn : isNoOp (storeRecord .store rs1 rs2 imm) = false := by simp [storeRecord, isNoOp]
  have hv : (executed (storeRecord .store rs1 rs2 imm) s).result = s.getReg rs2 := by
    simp [executed_result, storeRecord, wbSelect, Decoded.bind, readSource]
  unfold runRecord
  simp only [hn, Bool.and_false, Bool.false_eq_true, if_false, recordFault, he]
  cases dataFault s.params (s.getReg rs1 + imm) with
  | some f => rfl
  | none =>
    have hp : (executed (storeRecord .store rs1 rs2 imm) s).nextPc = s.pc + 4 := by
      simp [executed_nextPc, storeRecord, pcMux, Decoded.bind]
    simp only [commit, hp]
    rw [writeBack_none hd, readCsr_other (by simp [hk, readsCsr]), csrWritePhase_other (by simp [hk])]
    simp only [storePhase, he, executed_kind, hk, hv]

/-- CSRRW with `rd = x0` (R231). -/
theorem runRecord_csrWrite (rs1 : RegId) (c : CsrIndex) (s : State) :
    runRecord (systemRecord .csrWrite 0#5 rs1 c) s =
      .next (State.retire { s with csr := (s.csr.read c).2.write c (s.getReg rs1) } (s.pc + 4)) :=
  runRecord_eq_next.2 ⟨Bool.and_false _, rfl, rfl⟩

/-- CSRRS with `rs1 = x0` (R232). -/
theorem runRecord_csrRead (rd : RegId) (c : CsrIndex) (s : State) :
    runRecord (systemRecord .csrRead rd 0#5 c) s =
      .next ((State.setReg { s with csr := (s.csr.read c).2 } rd (s.csr.read c).1).retire (s.pc + 4)) := by
  by_cases h : rd = 0#5
  · subst h; exact runRecord_eq_next.2 ⟨Bool.and_false _, rfl, rfl⟩
  · have hk : (systemRecord .csrRead rd 0#5 c).kind = .csrRead := by simp [systemRecord]
    have hd : (executed (systemRecord .csrRead rd 0#5 c) s).rd = if rd = 0#5 then none else some rd := normalize_rd rfl
    have hi : (systemRecord .csrRead rd 0#5 c).csrIdx = some c := by simp [systemRecord]
    rw [runRecord_eq_next]
    refine ⟨by simp [isNoOp, hk], recordFault_none (by simp [hk, accessesMemory]), ?_⟩
    have hr : readCsr (executed (systemRecord .csrRead rd 0#5 c) s) s.csr = s.csr.read c := by
      simp [readCsr, hk, hi, readsCsr]
    have hp : (executed (systemRecord .csrRead rd 0#5 c) s).nextPc = s.pc + 4 := by
      simp [executed_nextPc, pcMux, hk, Decoded.bind]
    have hb : readCsr (systemRecord .csrRead rd 0#5 c) s.csr = s.csr.read c := hr
    have hv : (executed (systemRecord .csrRead rd 0#5 c) s).result = (s.csr.read c).1 := by
      simp [executed_result, wbSelect, hk, Decoded.bind, hb]
    simp only [commit, hr, hp]
    rw [writeBack_normalized hd (by simp [hk, writesRegister]), storePhase_other (by simp [hk]),
      csrWritePhase_other (by simp [hk])]
    simp only [wbData, executed_kind, hk, hv]

end Sys2Proof.Machine
end

