-- ==== Sys2Proof/Laws/Step.lean ====
section
/-! SUPPORT. The step said once: when the fetch succeeds, what a completed step is, which instructions access memory, and the
run one step longer. -/

namespace Sys2Proof.Machine

/-- The alignment test as arithmetic (R44, R46). -/
theorem isAligned_eq (a : Word) : isAligned a = decide (a.toNat % 4 = 0) := by
  simp [isAligned, ← BitVec.toNat_inj]

/-- No fault of a data access where the address is allowed and mapped (R46, R49). -/
theorem dataFault_eq_none {p : Params} {a : Word} (h : a.toNat % 4 = 0 ∨ p.misalignedDataPolicy = .split)
    (hm : wordInMap p.memMap a = true) : dataFault p a = none := by
  unfold dataFault
  rw [isAligned_eq]
  rcases h with h | h <;> simp [h, hm]

/-- Everything a fault of a data access says (R46, R49, R263). -/
theorem dataFault_eq_some {p : Params} {a : Word} {f : Fault} (h : dataFault p a = some f) :
    (a.toNat % 4 ≠ 0 ∧ p.misalignedDataPolicy = .fault ∧ f = .dataMisaligned a) ∨
      (wordInMap p.memMap a = false ∧ f = .accessFault a) := by
  unfold dataFault at h
  rw [isAligned_eq] at h
  split at h
  · rename_i hx
    injection h with h
    simp only [Bool.and_eq_true, Bool.not_eq_true', decide_eq_true_eq, decide_eq_false_iff_not] at hx
    exact .inl ⟨hx.1, hx.2, h.symm⟩
  · split at h
    · rename_i hx
      injection h with h
      exact .inr ⟨by simpa using hx, h.symm⟩
    · cases h

/-- The fetch of an aligned, mapped pc gives the word there (R117). -/
theorem fetchWord_eq_ok {s : State} (h : s.pc.toNat % 4 = 0) (hm : wordInMap s.params.memMap s.pc = true) :
    fetchWord s = .ok (s.mem.readWord s.pc) := by
  simp [fetchWord, isAligned_eq, h, hm]

/-- Everything a successful fetch says. -/
theorem fetchWord_ok {s : State} {w : Word} (h : fetchWord s = .ok w) :
    s.pc.toNat % 4 = 0 ∧ wordInMap s.params.memMap s.pc = true ∧ w = s.mem.readWord s.pc := by
  unfold fetchWord at h
  rw [isAligned_eq] at h
  split at h
  · cases h
  · split at h
    · cases h
    · rename_i h1 h2
      injection h with h
      exact ⟨by simpa using h1, by simpa using h2, h.symm⟩

/-- Everything a completed step says: the fetch succeeded, and the word's instruction completed. -/
theorem step_eq_next {s t : State} (h : step s = .next t) :
    s.pc.toNat % 4 = 0 ∧ wordInMap s.params.memMap s.pc = true ∧
      exec (decodeWord (s.mem.readWord s.pc)) s = .next t := by
  unfold step at h
  split at h
  · cases h
  · rename_i w hw
    obtain ⟨h1, h2, rfl⟩ := fetchWord_ok hw
    exact ⟨h1, h2, h⟩

/-- Only LW and SW access memory (R109). -/
theorem accessesMemory_recordOf {i : Instr} (h : accessesMemory (recordOf i).kind = true) :
    ∃ (r rs1 : RegId) (imm : Word), i = .lw r rs1 imm ∨ i = .sw rs1 r imm := by
  cases i <;> revert h <;>
    simp [recordOf, opImmRecord, opRecord, luiRecord, auipcRecord, jalRecord, jalrRecord, branchRecord, loadRecord,
      storeRecord, systemRecord, noFieldRecord, blankRecord, accessesMemory]

/-- A run one step longer. -/
theorem Reaches.cons {s t u : State} {k : Nat} (h : step s = .next t) (hr : Reaches t k u) : Reaches s (k + 1) u := by
  have e : Sys2Proof.core.step s = .next t := h
  unfold Reaches runSteps
  simp only [Host.Core.run, e]
  exact hr

end Sys2Proof.Machine
end

