-- ==== Sys2Proof/Tests/Slice0.lean ====
section
/-! SUPPORT. The model's own tests. Expected values come from spec/95_test_vectors.md, from the worked examples of the rules, or
by hand from the encodings of 30_encoding.md; and, for each statement with hypotheses, a witness that meets them. -/

namespace Sys2Proof.Tests

open Sys2Proof Sys2Proof.Machine

/-! ## Helpers -/

/-- The state after reset with some registers set, at pc 0x100 (the convention of 95_test_vectors.md). -/
def withRegs (rs : List (Nat × Word)) : State :=
  rs.foldl (fun s p => s.setReg (BitVec.ofNat 5 p.1) p.2) { State.reset with pc := 0x100 }

/-- `withRegs` with a word at the pc. -/
def at100 (rs : List (Nat × Word)) (w : Nat) : State := (withRegs rs).withFetchWord 32 w

/-- `at100` with the memory of 95_test_vectors.md section 6. -/
def memAt (rs : List (Nat × Word)) (w : Nat) : State :=
  let m := ((({ cells := [] } : Memory).writeWord 0 0xDEADBEEF).writeWord 0xFFC 0x12345678).writeWord 0x1000 0x04030201
  { withRegs rs with mem := m.writeWord 0x1008 0xAABBCCDD }.withFetchWord 32 w

/-- `at100` with CSR 0x340 holding a value. -/
def csrAt (v : Word) (rs : List (Nat × Word)) (w : Nat) : State :=
  { withRegs rs with csr := .plain [(0x340, v)] 0 }.withFetchWord 32 w

/-- The step completes, the listed registers hold the listed values, and the pc is as given. -/
def lands (s : State) (rs : List (Nat × Word)) (pc : Word) : Bool :=
  match step s with
  | .next t => rs.all (fun p => decide (t.getReg (BitVec.ofNat 5 p.1) = p.2)) && decide (t.pc = pc)
  | .fault _ | .refused _ => false

/-- The step completes and changes nothing but the pc, to the next word, and the notification count. -/
def idles (s : State) : Bool :=
  match step s, s.csr with
  | .next t, .plain cells n => decide (t = { s with pc := s.pc + 4, csr := .plain cells (n + 1) })
  | _, _ => false

/-- The step faults as given. -/
def faults (s : State) (f : Fault) : Bool :=
  match step s with
  | .fault g => decide (g = f)
  | .next _ | .refused _ => false

/-- The step is refused as given. -/
def refuses (s : State) (r : Refusal) : Bool :=
  match step s with
  | .refused q => decide (q = r)
  | .next _ | .fault _ => false

/-- An instruction completes on a state. -/
def completes (i : Instr) (s : State) : Bool :=
  match exec i s with
  | .next _ => true
  | .fault _ | .refused _ => false

/-- A state under `refuseUnsupported`, or under the policy `split`, or with another map. -/
def strictly (s : State) : State := { s with params := { s.params with refuseUnsupported := true } }

def splitting (s : State) : State := { s with params := { s.params with misalignedDataPolicy := .split } }

def mapped (m : List Region) (s : State) : State := { s with params := { s.params with memMap := m } }

/-- The word of memory after the step. -/
def storedAt (s : State) (a : Word) : Option Word :=
  match step s with
  | .next t => some (t.mem.readWord a)
  | .fault _ | .refused _ => none

/-- CSR 0x340 after the step. -/
def csrAfter (s : State) : Option Word :=
  match step s with
  | .next t => some (t.csr.read 0x340).1
  | .fault _ | .refused _ => none

/-- The pc after the step. -/
def pcAfter (s : State) : Option Word :=
  match step s with
  | .next t => some t.pc
  | .fault _ | .refused _ => none

/-! ## Decoding: at least one word of every constructor, written out from the encodings of 30_encoding.md -/

theorem test_decode_op_imm :
    decodeWord 0xFFF10093#32 = .addi 1 2 (-1) ∧
    decodeWord 0x80022193#32 = .slti 3 4 (-2048) ∧
    decodeWord 0xFFF23193#32 = .sltiu 3 4 (-1) ∧
    decodeWord 0xFFF34293#32 = .xori 5 6 (-1) ∧
    decodeWord 0x0F036293#32 = .ori 5 6 0xF0 ∧
    decodeWord 0x7FF37293#32 = .andi 5 6 0x7FF ∧
    decodeWord 0x01F41393#32 = .slli 7 8 31 ∧
    decodeWord 0x41F45393#32 = .srai 7 8 31 ∧
    decodeWord 0x01F45393#32 = .srli 7 8 31 ∧
    decodeWord 0x43F45393#32 = .srai 7 8 31 := by decide

theorem test_decode_op :
    decodeWord 0x403100B3#32 = .sub 1 2 3 ∧
    decodeWord 0x003100B3#32 = .add 1 2 3 ∧
    decodeWord 0x003110B3#32 = .sll 1 2 3 ∧
    decodeWord 0x003120B3#32 = .slt 1 2 3 ∧
    decodeWord 0x003130B3#32 = .sltu 1 2 3 ∧
    decodeWord 0x003140B3#32 = .xor 1 2 3 ∧
    decodeWord 0x403150B3#32 = .sra 1 2 3 ∧
    decodeWord 0x003150B3#32 = .srl 1 2 3 ∧
    decodeWord 0x003160B3#32 = .or 1 2 3 ∧
    decodeWord 0x003170B3#32 = .and 1 2 3 ∧
    decodeWord 0x02208033#32 = .add 0 1 2 := by decide

theorem test_decode_upper_and_jump :
    decodeWord 0x12345037#32 = .lui 0 0x12345000 ∧
    decodeWord 0xFFFFF0B7#32 = .lui 1 0xFFFFF000 ∧
    decodeWord 0x00001097#32 = .auipc 1 0x1000 ∧
    decodeWord 0x008000EF#32 = .jal 1 8 ∧
    decodeWord 0xFF9FF06F#32 = .jal 0 (-8) ∧
    decodeWord 0x7FFFF06F#32 = .jal 0 1048574 ∧
    decodeWord 0x8000006F#32 = .jal 0 (-1048576) ∧
    decodeWord 0x001000EF#32 = .jal 1 2048 ∧
    decodeWord 0x000010EF#32 = .jal 1 4096 ∧
    decodeWord 0x004280E7#32 = .jalr 1 5 4 ∧
    decodeWord 0x0002F0E7#32 = .jalr 1 5 0 := by decide

theorem test_decode_branch :
    decodeWord 0xFE000EE3#32 = .beq 0 0 (-4) ∧
    decodeWord 0x7E101FE3#32 = .bne 0 1 4094 ∧
    decodeWord 0xFE20C8E3#32 = .blt 1 2 (-16) ∧
    decodeWord 0xFE20D8E3#32 = .bge 1 2 (-16) ∧
    decodeWord 0x0020E0E3#32 = .bltu 1 2 2048 ∧
    decodeWord 0x0020F0E3#32 = .bgeu 1 2 2048 ∧
    decodeWord 0x80000063#32 = .beq 0 0 (-4096) ∧
    decodeWord 0x0020A063#32 = .branchF301x 1 2 0 ∧
    decodeWord 0x0020B863#32 = .branchF301x 1 2 16 := by decide

theorem test_decode_load :
    decodeWord 0x00130283#32 = .lb 5 6 1 ∧
    decodeWord 0x00231283#32 = .lh 5 6 2 ∧
    decodeWord 0xFFC32283#32 = .lw 5 6 (-4) ∧
    decodeWord 0x00033283#32 = .loadF3011 5 6 0 ∧
    decodeWord 0x00034283#32 = .lbu 5 6 0 ∧
    decodeWord 0x00035283#32 = .lhu 5 6 0 ∧
    decodeWord 0xFFF36283#32 = .loadF3110 5 6 (-1) ∧
    decodeWord 0x00437283#32 = .loadF3111 5 6 4 := by decide

theorem test_decode_store :
    decodeWord 0x00730023#32 = .sb 6 7 0 ∧
    decodeWord 0x00731023#32 = .sh 6 7 0 ∧
    decodeWord 0x80732023#32 = .sw 6 7 (-2048) ∧
    decodeWord 0x007320A3#32 = .sw 6 7 1 ∧
    decodeWord 0x00733123#32 = .storeF3011 6 7 2 ∧
    decodeWord 0xFE734FA3#32 = .storeF31xx 6 7 (-1) ∧
    decodeWord 0x007372A3#32 = .storeF31xx 6 7 5 := by decide

theorem test_decode_system :
    decodeWord 0x34029073#32 = .csrrwRd0 5 0x340 ∧
    decodeWord 0x34002373#32 = .csrrsRs10 6 0x340 ∧
    decodeWord 0x00000073#32 = .ecall ∧
    decodeWord 0x00100073#32 = .ebreak ∧
    decodeWord 0x30200073#32 = .mret ∧
    decodeWord 0x10200073#32 = .sret ∧
    decodeWord 0x10500073#32 = .wfi ∧
    decodeWord 0x34029373#32 = .csrrw 6 5 0x340 ∧
    decodeWord 0x3403A373#32 = .csrrs 6 7 0x340 ∧
    decodeWord 0x3403B373#32 = .csrrc 6 7 0x340 ∧
    decodeWord 0x3400D373#32 = .csrrwi 6 1 0x340 ∧
    decodeWord 0x3400E373#32 = .csrrsi 6 1 0x340 ∧
    decodeWord 0x340FF073#32 = .csrrci 0 31 0x340 ∧
    decodeWord 0xFFF0C373#32 = .systemOther 6 1 0xFFF ∧
    decodeWord 0x12000073#32 = .systemOther 0 0 0x120 := by decide

theorem test_decode_fence_atomic_default :
    decodeWord 0x0FF0000F#32 = .miscMem ∧
    decodeWord 0x0000100F#32 = .miscMem ∧
    decodeWord 0x100322AF#32 = .amo ∧
    decodeWord 0x1853A2AF#32 = .amo ∧
    decodeWord 0x00000000#32 = .unrecognized ∧
    decodeWord 0xFFFFFFFF#32 = .unrecognized ∧
    decodeWord 0x0000000B#32 = .unrecognized ∧
    decodeWord 0x00000001#32 = .unrecognized := by decide

/-- The immediates of a word (95_test_vectors.md section 3). -/
theorem test_immediates :
    immediates 0x8000006F#32 = ⟨0xFFFFF800#32, 0xFFFFF800#32, 0xFFFFF000#32, 0xFFF00000#32, 0x80000000#32⟩ ∧
    immediates 0xFE000EE3#32 = ⟨0xFFFFFFE0#32, 0xFFFFFFFD#32, 0xFFFFFFFC#32, 0xFFF007E0#32, 0xFE000000#32⟩ ∧
    immediates 0x7E000FA3#32 = ⟨0x000007E0#32, 0x000007FF#32, 0x00000FFE#32, 0x000007E0#32, 0x7E000000#32⟩ ∧
    immediates 0xFF9FF06F#32 = ⟨0xFFFFFFF9#32, 0xFFFFFFE0#32, 0xFFFFF7E0#32, 0xFFFFFFF8#32, 0xFF9FF000#32⟩ := by decide

/-- Records after decode and normalization (95_test_vectors.md section 2). -/
theorem test_records :
    decodeRecord 0x41F45393#32 =
      { blankRecord with kind := .alu, aluOp := .sra, rd := some 7, rs1 := some 8, imm := some 0x1F } ∧
    decodeRecord 0x00030283#32 =
      { blankRecord with kind := .unsupported, aluOp := .add, rd := some 5, rs1 := some 6, imm := some 0 } ∧
    decodeRecord 0x34029073#32 = { blankRecord with kind := .csrWrite, rs1 := some 5, csrIdx := some 0x340 } ∧
    decodeRecord 0x00000013#32 = { blankRecord with kind := .alu, aluOp := .add, rs1 := some 0, imm := some 0 } ∧
    decodeRecord 0x00008067#32 =
      { blankRecord with kind := .jumpRegister, brCond := .always, rs1 := some 1, imm := some 0 } ∧
    decodeRecord 0x0FF0000F#32 = blankRecord := by decide

/-- Bytes: little-endian, and an input shorter than a word is rejected (R43, R60). -/
theorem test_decode_bytes :
    decode [0x93, 0x00, 0xF1, 0xFF, 0x01] = .ok (.addi 1 2 (-1), [0x01]) ∧ decode [0x93, 0x00, 0xF1] = .error .truncated ∧
      decodeTableWord 32 0x00832283 = some (.lw 5 6 8) ∧ decodeTableWord 64 0 = none := by decide

/-- The encoder writes the spec's words. -/
theorem test_encode :
    encode (.addi 1 2 (-1)) = 0xFFF10093#32 ∧ encode (.srai 7 8 31) = 0x41F45393#32 ∧ encode (.sub 1 2 3) = 0x403100B3#32 ∧
      encode (.lui 1 0xFFFFF000) = 0xFFFFF0B7#32 ∧ encode (.jal 0 (-1048576)) = 0x8000006F#32 ∧
      encode (.bne 0 1 4094) = 0x7E101FE3#32 ∧ encode (.sw 6 7 (-2048)) = 0x80732023#32 ∧
      encode (.csrrsRs10 6 0x340) = 0x34002373#32 := by decide

/-! ## WellFormed: an ill-formed term for each check, refused -/

theorem test_wellformed_refuses :
    (Instr.addi 1 2 2048).wf = false ∧ (Instr.sw 1 2 0xFFFFF7FF).wf = false ∧ (Instr.beq 1 2 4096).wf = false ∧
      (Instr.beq 1 2 3).wf = false ∧ (Instr.jal 1 1048576).wf = false ∧ (Instr.jal 1 5).wf = false ∧
      (Instr.lui 1 0x800).wf = false ∧ (Instr.srli 1 2 32).wf = false ∧ (Instr.csrrw 0 5 0x340).wf = false ∧
      (Instr.csrrs 6 0 0x340).wf = false := by decide

theorem test_wellformed_accepts :
    (Instr.addi 1 2 (-2048)).wf = true ∧ (Instr.sw 1 2 2047).wf = true ∧ (Instr.beq 1 2 (-4096)).wf = true ∧
      (Instr.bgeu 1 2 4094).wf = true ∧ (Instr.jal 1 1048574).wf = true ∧ (Instr.auipc 1 0xFFFFF000).wf = true ∧
      (Instr.srai 1 2 31).wf = true ∧ (Instr.csrrw 31 0 0xFFF).wf = true ∧ (Instr.csrrs 0 1 0).wf = true := by decide

/-! ## One step of every instruction (95_test_vectors.md sections 4 to 7) -/

theorem test_addi :
    lands (at100 [(2, 0x7FFFFFFF#32)] 0x7FF10093) [(1, 0x800007FE#32), (2, 0x7FFFFFFF#32)] 0x00000104#32 = true ∧
    lands (at100 [(2, 0x00000001#32)] 0x00710013) [(0, 0x00000000#32), (2, 0x00000001#32)] 0x00000104#32 = true := by decide

theorem test_slti :
    lands (at100 [(4, 0x00000000#32)] 0xFFF22193) [(3, 0x00000000#32), (4, 0x00000000#32)] 0x00000104#32 = true ∧
    lands (at100 [(4, 0x80000000#32)] 0x80022193) [(3, 0x00000001#32), (4, 0x80000000#32)] 0x00000104#32 = true := by decide

theorem test_sltiu :
    lands (at100 [(4, 0xFFFFFFFE#32)] 0xFFF23193) [(3, 0x00000001#32), (4, 0xFFFFFFFE#32)] 0x00000104#32 = true ∧
    lands (at100 [(4, 0xFFFFFFFF#32)] 0xFFF23193) [(3, 0x00000000#32), (4, 0xFFFFFFFF#32)] 0x00000104#32 = true := by decide

theorem test_xori :
    lands (at100 [(6, 0x0F0F0F0F#32)] 0xFFF34293) [(5, 0xF0F0F0F0#32), (6, 0x0F0F0F0F#32)] 0x00000104#32 = true := by decide

theorem test_ori :
    lands (at100 [(6, 0x0000000F#32)] 0x0F036293) [(5, 0x000000FF#32), (6, 0x0000000F#32)] 0x00000104#32 = true ∧
    lands (at100 [(6, 0x00000001#32)] 0x80036293) [(5, 0xFFFFF801#32), (6, 0x00000001#32)] 0x00000104#32 = true := by decide

theorem test_andi :
    lands (at100 [(6, 0xFFFFFFFF#32)] 0x7FF37293) [(5, 0x000007FF#32), (6, 0xFFFFFFFF#32)] 0x00000104#32 = true ∧
    lands (at100 [(6, 0x12345678#32)] 0xFFF37293) [(5, 0x12345678#32), (6, 0x12345678#32)] 0x00000104#32 = true := by decide

theorem test_slli :
    lands (at100 [(8, 0x00000003#32)] 0x01F41393) [(7, 0x80000000#32), (8, 0x00000003#32)] 0x00000104#32 = true ∧
    lands (at100 [(8, 0xDEADBEEF#32)] 0x00041393) [(7, 0xDEADBEEF#32), (8, 0xDEADBEEF#32)] 0x00000104#32 = true := by decide

theorem test_srai :
    lands (at100 [(8, 0x80000000#32)] 0x41F45393) [(7, 0xFFFFFFFF#32), (8, 0x80000000#32)] 0x00000104#32 = true ∧
    lands (at100 [(8, 0x70000000#32)] 0x40445393) [(7, 0x07000000#32), (8, 0x70000000#32)] 0x00000104#32 = true := by decide

theorem test_srli :
    lands (at100 [(8, 0x80000000#32)] 0x01F45393) [(7, 0x00000001#32), (8, 0x80000000#32)] 0x00000104#32 = true ∧
    lands (at100 [(8, 0xF0000000#32)] 0x00445393) [(7, 0x0F000000#32), (8, 0xF0000000#32)] 0x00000104#32 = true := by decide

theorem test_sub :
    lands (at100 [(2, 0x00000000#32), (3, 0x00000001#32)] 0x403100B3) [(1, 0xFFFFFFFF#32), (2, 0x00000000#32), (3, 0x00000001#32)] 0x00000104#32 = true ∧
    lands (at100 [(2, 0x80000000#32), (3, 0x00000001#32)] 0x403100B3) [(1, 0x7FFFFFFF#32), (2, 0x80000000#32), (3, 0x00000001#32)] 0x00000104#32 = true := by decide

theorem test_add :
    lands (at100 [(2, 0xFFFFFFFF#32), (3, 0x00000001#32)] 0x003100B3) [(1, 0x00000000#32), (2, 0xFFFFFFFF#32), (3, 0x00000001#32)] 0x00000104#32 = true ∧
    lands (at100 [(2, 0x7FFFFFFF#32), (3, 0x00000001#32)] 0x003100B3) [(1, 0x80000000#32), (2, 0x7FFFFFFF#32), (3, 0x00000001#32)] 0x00000104#32 = true := by decide

theorem test_sll :
    lands (at100 [(2, 0x00000001#32), (3, 0x00000021#32)] 0x003110B3) [(1, 0x00000002#32), (2, 0x00000001#32), (3, 0x00000021#32)] 0x00000104#32 = true ∧
    lands (at100 [(2, 0x00000001#32), (3, 0xFFFFFFFF#32)] 0x003110B3) [(1, 0x80000000#32), (2, 0x00000001#32), (3, 0xFFFFFFFF#32)] 0x00000104#32 = true := by decide

theorem test_slt :
    lands (at100 [(2, 0x80000000#32), (3, 0x7FFFFFFF#32)] 0x003120B3) [(1, 0x00000001#32), (2, 0x80000000#32), (3, 0x7FFFFFFF#32)] 0x00000104#32 = true ∧
    lands (at100 [(2, 0x00000005#32), (3, 0x00000005#32)] 0x003120B3) [(1, 0x00000000#32), (2, 0x00000005#32), (3, 0x00000005#32)] 0x00000104#32 = true := by decide

theorem test_sltu :
    lands (at100 [(2, 0x80000000#32), (3, 0x7FFFFFFF#32)] 0x003130B3) [(1, 0x00000000#32), (2, 0x80000000#32), (3, 0x7FFFFFFF#32)] 0x00000104#32 = true ∧
    lands (at100 [(3, 0x00000001#32)] 0x003030B3) [(1, 0x00000001#32), (3, 0x00000001#32)] 0x00000104#32 = true := by decide

theorem test_xor :
    lands (at100 [(2, 0xFF00FF00#32), (3, 0x0FF00FF0#32)] 0x003140B3) [(1, 0xF0F0F0F0#32), (2, 0xFF00FF00#32), (3, 0x0FF00FF0#32)] 0x00000104#32 = true := by decide

theorem test_sra :
    lands (at100 [(2, 0x80000000#32), (3, 0x00000004#32)] 0x403150B3) [(1, 0xF8000000#32), (2, 0x80000000#32), (3, 0x00000004#32)] 0x00000104#32 = true ∧
    lands (at100 [(2, 0x80000000#32), (3, 0x0000003F#32)] 0x403150B3) [(1, 0xFFFFFFFF#32), (2, 0x80000000#32), (3, 0x0000003F#32)] 0x00000104#32 = true := by decide

theorem test_srl :
    lands (at100 [(2, 0x80000000#32), (3, 0x00000004#32)] 0x003150B3) [(1, 0x08000000#32), (2, 0x80000000#32), (3, 0x00000004#32)] 0x00000104#32 = true ∧
    lands (at100 [(2, 0x80000000#32), (3, 0x00000024#32)] 0x003150B3) [(1, 0x08000000#32), (2, 0x80000000#32), (3, 0x00000024#32)] 0x00000104#32 = true := by decide

theorem test_or :
    lands (at100 [(2, 0x000000F0#32), (3, 0x0000000F#32)] 0x003160B3) [(1, 0x000000FF#32), (2, 0x000000F0#32), (3, 0x0000000F#32)] 0x00000104#32 = true := by decide

theorem test_and :
    lands (at100 [(2, 0xFF00FF00#32), (3, 0x0FF00FF0#32)] 0x003170B3) [(1, 0x0F000F00#32), (2, 0xFF00FF00#32), (3, 0x0FF00FF0#32)] 0x00000104#32 = true := by decide

theorem test_lui :
    lands (at100 [] 0xFFFFF0B7) [(1, 0xFFFFF000#32)] 0x00000104#32 = true ∧
    lands (at100 [] 0x800000B7) [(1, 0x80000000#32)] 0x00000104#32 = true := by decide

theorem test_auipc :
    lands (at100 [] 0x00001097) [(1, 0x00001100#32)] 0x00000104#32 = true ∧
    lands (at100 [] 0x00000097) [(1, 0x00000100#32)] 0x00000104#32 = true := by decide

theorem test_jal :
    lands (at100 [] 0x7FFFF2EF) [(5, 0x00000104#32)] 0x001000FE#32 = true ∧
    lands (at100 [] 0x008000EF) [(1, 0x00000104#32)] 0x00000108#32 = true := by decide

theorem test_jalr :
    lands (at100 [(5, 0x00000300#32)] 0x000282E7) [(5, 0x00000104#32)] 0x00000300#32 = true ∧
    lands (at100 [(5, 0x00000200#32)] 0x00228067) [(0, 0x00000000#32), (5, 0x00000200#32)] 0x00000202#32 = true := by decide

theorem test_beq :
    lands (at100 [(1, 0x00000005#32), (2, 0x00000005#32)] 0x00208863) [(0, 0x00000000#32), (1, 0x00000005#32), (2, 0x00000005#32)] 0x00000110#32 = true ∧
    lands (at100 [(1, 0x00000005#32), (2, 0x00000006#32)] 0x00208863) [(0, 0x00000000#32), (1, 0x00000005#32), (2, 0x00000006#32)] 0x00000104#32 = true := by decide

theorem test_bne :
    lands (at100 [(1, 0x00000005#32), (2, 0x00000006#32)] 0x00209863) [(0, 0x00000000#32), (1, 0x00000005#32), (2, 0x00000006#32)] 0x00000110#32 = true ∧
    lands (at100 [(1, 0x00000005#32), (2, 0x00000005#32)] 0x00209863) [(0, 0x00000000#32), (1, 0x00000005#32), (2, 0x00000005#32)] 0x00000104#32 = true := by decide

theorem test_blt :
    lands (at100 [(1, 0xFFFFFFFF#32), (2, 0x00000001#32)] 0xFE20C8E3) [(0, 0x00000000#32), (1, 0xFFFFFFFF#32), (2, 0x00000001#32)] 0x000000F0#32 = true ∧
    lands (at100 [(1, 0x00000001#32), (2, 0xFFFFFFFF#32)] 0xFE20C8E3) [(0, 0x00000000#32), (1, 0x00000001#32), (2, 0xFFFFFFFF#32)] 0x00000104#32 = true := by decide

theorem test_bge :
    lands (at100 [(1, 0x00000005#32), (2, 0x00000005#32)] 0xFE20D8E3) [(0, 0x00000000#32), (1, 0x00000005#32), (2, 0x00000005#32)] 0x000000F0#32 = true ∧
    lands (at100 [(1, 0x80000000#32), (2, 0x00000000#32)] 0xFE20D8E3) [(0, 0x00000000#32), (1, 0x80000000#32), (2, 0x00000000#32)] 0x00000104#32 = true := by decide

theorem test_bltu :
    lands (at100 [(1, 0x00000001#32), (2, 0xFFFFFFFF#32)] 0x0020E0E3) [(0, 0x00000000#32), (1, 0x00000001#32), (2, 0xFFFFFFFF#32)] 0x00000900#32 = true ∧
    lands (at100 [(1, 0xFFFFFFFF#32), (2, 0x00000001#32)] 0x0020E0E3) [(0, 0x00000000#32), (1, 0xFFFFFFFF#32), (2, 0x00000001#32)] 0x00000104#32 = true := by decide

theorem test_bgeu :
    lands (at100 [(1, 0xFFFFFFFF#32), (2, 0x00000001#32)] 0x0020F0E3) [(0, 0x00000000#32), (1, 0xFFFFFFFF#32), (2, 0x00000001#32)] 0x00000900#32 = true ∧
    lands (at100 [(2, 0x00000001#32)] 0x002070E3) [(0, 0x00000000#32), (2, 0x00000001#32)] 0x00000104#32 = true := by decide

theorem test_lw :
    lands (memAt [(6, 0x00001000#32)] 0x00832283) [(5, 0xAABBCCDD#32), (6, 0x00001000#32)] 0x00000104#32 = true ∧
    lands (memAt [(6, 0x00001000#32)] 0x00032303) [(6, 0x04030201#32)] 0x00000104#32 = true := by decide

theorem test_sw :
    lands (memAt [(6, 0x00001000#32), (7, 0xAABBCCDD#32)] 0x00732623) [(0, 0x00000000#32), (6, 0x00001000#32), (7, 0xAABBCCDD#32)] 0x00000104#32 = true ∧
    storedAt (memAt [(6, 0x00001000#32), (7, 0xAABBCCDD#32)] 0x00732623) 0x0000100C = some 0xAABBCCDD ∧
    lands (memAt [(6, 0x00001800#32), (7, 0x11223344#32)] 0x80732023) [(0, 0x00000000#32), (6, 0x00001800#32), (7, 0x11223344#32)] 0x00000104#32 = true ∧
    storedAt (memAt [(6, 0x00001800#32), (7, 0x11223344#32)] 0x80732023) 0x00001000 = some 0x11223344 := by decide

theorem test_csrrwRd0 :
    lands (csrAt 0x00000001 [(5, 0x0000CAFE#32)] 0x34029073) [(0, 0x00000000#32), (5, 0x0000CAFE#32)] 0x00000104#32 = true ∧
    csrAfter (csrAt 0x00000001 [(5, 0x0000CAFE#32)] 0x34029073) = some 0x0000CAFE ∧
    lands (csrAt 0x00000001 [] 0x34001073) [(0, 0x00000000#32)] 0x00000104#32 = true ∧
    csrAfter (csrAt 0x00000001 [] 0x34001073) = some 0x00000000 := by decide

theorem test_csrrsRs10 :
    lands (csrAt 0x0000CAFE [] 0x34002373) [(6, 0x0000CAFE#32)] 0x00000104#32 = true ∧
    lands (csrAt 0x0000CAFE [] 0x34002073) [(0, 0x00000000#32)] 0x00000104#32 = true := by decide

theorem test_branch_never :
    idles (memAt [(5, 0x11111111#32), (6, 0x00001000#32), (7, 0x000000FF#32)] 0x0020A063) = true ∧
    idles (memAt [(5, 0x11111111#32), (6, 0x00001000#32), (7, 0x000000FF#32)] 0x0020B863) = true := by decide

theorem test_unsupported_loads :
    idles (memAt [(5, 0x11111111#32), (6, 0x00001000#32), (7, 0x000000FF#32)] 0x00130283) = true ∧
    idles (memAt [(5, 0x11111111#32), (6, 0x00001000#32), (7, 0x000000FF#32)] 0x00231283) = true ∧
    idles (memAt [(5, 0x11111111#32), (6, 0x00001000#32), (7, 0x000000FF#32)] 0x00033283) = true ∧
    idles (memAt [(5, 0x11111111#32), (6, 0x00001000#32), (7, 0x000000FF#32)] 0x00034283) = true ∧
    idles (memAt [(5, 0x11111111#32), (6, 0x00001000#32), (7, 0x000000FF#32)] 0x00035283) = true ∧
    idles (memAt [(5, 0x11111111#32), (6, 0x00001000#32), (7, 0x000000FF#32)] 0xFFF36283) = true ∧
    idles (memAt [(5, 0x11111111#32), (6, 0x00001000#32), (7, 0x000000FF#32)] 0x00437283) = true := by decide

theorem test_unsupported_stores :
    idles (memAt [(5, 0x11111111#32), (6, 0x00001000#32), (7, 0x000000FF#32)] 0x00730023) = true ∧
    idles (memAt [(5, 0x11111111#32), (6, 0x00001000#32), (7, 0x000000FF#32)] 0x00731023) = true ∧
    idles (memAt [(5, 0x11111111#32), (6, 0x00001000#32), (7, 0x000000FF#32)] 0x00733123) = true ∧
    idles (memAt [(5, 0x11111111#32), (6, 0x00001000#32), (7, 0x000000FF#32)] 0xFE734FA3) = true := by decide

theorem test_system_words :
    idles (csrAt 0x00000001 [(5, 0x00000009#32), (6, 0x00000077#32)] 0x00000073) = true ∧
    idles (csrAt 0x00000001 [(5, 0x00000009#32), (6, 0x00000077#32)] 0x00100073) = true ∧
    idles (csrAt 0x00000001 [(5, 0x00000009#32), (6, 0x00000077#32)] 0x30200073) = true ∧
    idles (csrAt 0x00000001 [(5, 0x00000009#32), (6, 0x00000077#32)] 0x10200073) = true ∧
    idles (csrAt 0x00000001 [(5, 0x00000009#32), (6, 0x00000077#32)] 0x10500073) = true := by decide

theorem test_csr_no_ops :
    idles (csrAt 0x00000001 [(5, 0x00000009#32), (6, 0x00000077#32)] 0x34029373) = true ∧
    idles (csrAt 0x00000001 [(5, 0x00000009#32), (6, 0x00000077#32)] 0x3403A373) = true ∧
    idles (csrAt 0x00000001 [(5, 0x00000009#32), (6, 0x00000077#32)] 0x3403B373) = true ∧
    idles (csrAt 0x00000001 [(5, 0x00000009#32), (6, 0x00000077#32)] 0x3400D373) = true ∧
    idles (csrAt 0x00000001 [(5, 0x00000009#32), (6, 0x00000077#32)] 0x3400E373) = true ∧
    idles (csrAt 0x00000001 [(5, 0x00000009#32), (6, 0x00000077#32)] 0x340FF073) = true ∧
    idles (csrAt 0x00000001 [(5, 0x00000009#32), (6, 0x00000077#32)] 0xFFF0C373) = true ∧
    idles (csrAt 0x00000001 [(5, 0x00000009#32), (6, 0x00000077#32)] 0x12000073) = true := by decide

theorem test_fence_atomic_default :
    idles (csrAt 0x00000001 [(5, 0x00000009#32), (6, 0x00000077#32)] 0x0FF0000F) = true ∧
    idles (csrAt 0x00000001 [(5, 0x00000009#32), (6, 0x00000077#32)] 0x0000100F) = true ∧
    idles (csrAt 0x00000001 [(5, 0x00000009#32), (6, 0x00000077#32)] 0x100322AF) = true ∧
    idles (csrAt 0x00000001 [(5, 0x00000009#32), (6, 0x00000077#32)] 0x1853A2AF) = true ∧
    idles (csrAt 0x00000001 [(5, 0x00000009#32), (6, 0x00000077#32)] 0x00000000) = true ∧
    idles (csrAt 0x00000001 [(5, 0x00000009#32), (6, 0x00000077#32)] 0xFFFFFFFF) = true ∧
    idles (csrAt 0x00000001 [(5, 0x00000009#32), (6, 0x00000077#32)] 0x0000000B) = true ∧
    idles (csrAt 0x00000001 [(5, 0x00000009#32), (6, 0x00000077#32)] 0x00000001) = true := by decide

/-- A load to x0 reads and writes nothing (D9); an unsupported load outside the map does not fault (R212). -/
theorem test_load_corners :
    idles (memAt [(6, 0x1000#32)] 0x00832003) = true ∧
      idles (mapped [⟨0, 0x2000⟩] (memAt [(6, 0x2000#32)] 0x00030283)) = true ∧
      lands (memAt [(6, 0xFFFFFFFC#32)] 0x00432283) [(5, 0xDEADBEEF#32)] 0x104#32 = true := by decide

/-- The data faults, and the policy `split` (R46, R49). -/
theorem test_data_faults :
    faults (memAt [(6, 0x1000#32)] 0x00232283) (.dataMisaligned 0x1002) = true ∧
      faults (memAt [(6, 0x1000#32), (7, 5#32)] 0x007320A3) (.dataMisaligned 0x1001) = true ∧
      faults (mapped [⟨0, 0x2000⟩] (memAt [(6, 0x2000#32)] 0x00032283)) (.accessFault 0x2000) = true ∧
      lands (splitting (memAt [(6, 0x1000#32)] 0x00232283)) [(5, 0x00000403#32)] 0x104#32 = true := by decide

/-- The fetch faults, a misaligned one first (R44, R49, R263). -/
theorem test_fetch_faults :
    faults { State.reset with pc := 0x1B } (.fetchMisaligned 0x1B) = true ∧
      faults (mapped [⟨0, 0x100⟩] { State.reset with pc := 0x100 }) (.accessFault 0x100) = true ∧
      faults (mapped [] { State.reset with pc := 0x101 }) (.fetchMisaligned 0x101) = true := by decide

/-- `refuseUnsupported` refuses kinds Unsupported, System and Branch with condition Never, and nothing else (R120). -/
theorem test_strict :
    refuses (strictly (at100 [] 0x00000073)) (.noOpRefused .system) = true ∧
      refuses (strictly (at100 [] 0x00030283)) (.noOpRefused .unsupported) = true ∧
      refuses (strictly (at100 [] 0x0020A063)) (.noOpRefused .branch) = true ∧
      lands (strictly (at100 [] 0x00500093)) [(1, 5#32)] 0x104#32 = true := by decide

/-- The pc wraps (R23). -/
theorem test_pc_wraps :
    lands ({ State.reset with pc := 0xFFFFFFFC }.withFetchWord 32 0x008000EF) [(1, 0#32)] 0x00000004#32 = true ∧
      lands (State.reset.withFetchWord 32 0xFE000EE3) [] 0xFFFFFFFC#32 = true := by decide

/-- Reset (R280): what it leaves, and that State.reset is a reset of itself. -/
theorem test_reset :
    State.reset.resetAt Config.resetPc = State.reset ∧
      (csrAt 0xCAFE [(5, 9#32)] 0x00000073).resetAt 0x200 =
        { csrAt 0xCAFE [(5, 9#32)] 0x00000073 with pc := 0x200, csr := .plain [] 0 } := by decide

/-- The memory's canonical form: a byte written back to what an unlisted byte reads as is not listed. -/
theorem test_memory_canonical :
    (({ cells := [] } : Memory).writeWord 0x1000 0x11223344).cells =
        [(0x1000, 0x44), (0x1001, 0x33), (0x1002, 0x22), (0x1003, 0x11)] ∧
      ((({ cells := [] } : Memory).writeWord 0x1000 0x11223344).writeWord 0x1000 0x00223300).cells =
        [(0x1001, 0x33), (0x1002, 0x22)] ∧
      (({ cells := [] } : Memory).writeWord 0xFFFFFFFE 0x11223344).cells =
        [(0, 0x22), (1, 0x11), (0xFFFFFFFE, 0x44), (0xFFFFFFFF, 0x33)] := by decide

/-- The ports of a step (R119): LW, whose register write takes the memory's word. -/
theorem test_ports_lw :
    let o := block 0x100 ⟨0x00832283, 0x1000, 0, 0, 0xAABBCCDD⟩
    o.kind = .load ∧ o.memRe = true ∧ o.memAddr = 0x1008 ∧ o.gprWe = true ∧ o.gprWdata = 0xAABBCCDD ∧ o.memWe = false ∧
      o.result = 0x1008 ∧ o.nextPc = 0x104 := by decide

/-! ## Witnesses: for each statement with hypotheses, concrete values that meet them -/

theorem witness_DecodeOfEncodeIsIdentity :
    (Instr.addi 31 0 (-2048)).wf = true ∧ (Instr.srai 1 2 31).wf = true ∧ (Instr.jal 1 (-1048576)).wf = true ∧
      (Instr.csrrw 1 0 0xFFF).wf = true ∧ Instr.unrecognized.wf = true := by decide

theorem witness_SignExtenderClosedForm : (0 < 1 ∧ 1 ≤ 32) ∧ (0 < 12 ∧ 12 ≤ 32) ∧ (0 < 32 ∧ 32 ≤ 32) := by decide

/-- Two different words with the same opcode and the same examined bits. -/
def alike (a b : Word) : Bool :=
  decide (a ≠ b ∧ opcodeOf a = opcodeOf b ∧ Sys2Proof.Claims.examined a = Sys2Proof.Claims.examined b)

/-- A pair for each class. -/
theorem witness_UnexaminedBitsChooseNothing :
    alike 0x01F41393 0xFFF41393 = true ∧ alike 0x003100B3 0x02208033 = true ∧ alike 0x00008067 0x00001067 = true ∧
      alike 0x000000B7 0x12345037 = true ∧ alike 0x00000097 0x00001097 = true ∧ alike 0x0000006F 0x008000EF = true ∧
      alike 0x00208863 0x80000063 = true ∧ alike 0x00030283 0x00034283 = true ∧ alike 0x00731023 0x00733023 = true ∧
      alike 0x34029073 0x34001073 = true ∧ alike 0x34029373 0x340013F3 = true ∧ alike 0x0FF0000F 0x0000100F = true ∧
      alike 0x100322AF 0x1853A2AF = true ∧ alike 0x00000000 0x00000080 = true := by decide

theorem witness_BytesOfAnInstructionDecode :
    (Instr.sw 6 7 (-2048)).wf = true ∧ ([] : List Byte).length < 4 ∧ ([0, 0, 0] : List Byte).length < 4 := by decide

theorem witness_DispatchIsTotalAndFixed :
    dispatch (opcodeOf 0x00000000#32) = .default ∧ dispatch (opcodeOf 0xFFFFFFFF#32) = .default := by decide

theorem witness_LastRegistrationWins :
    (0x03#7 : Opcode) ≠ 0x13#7 ∧
      ((∀ e ∈ (Registry.mk [(0x13#7, .opImm)] none).entries, e.1 ≠ 0x03#7) ∧
        (Registry.mk [(0x13#7, .opImm)] none).default = none) := by decide

theorem witness_DestinationZeroIsNormalized :
    (handle (dispatch (opcodeOf 0x00000013#32)) 0x00000013#32 (immediates 0x00000013#32)).rd = some 0 ∧
      (handle (dispatch (opcodeOf 0x00000F93#32)) 0x00000F93#32 (immediates 0x00000F93#32)).rd = some 31 ∧
      (handle (dispatch (opcodeOf 0x80732023#32)) 0x80732023#32 (immediates 0x80732023#32)).rd = none := by decide

theorem witness_AluShifts : (0x7FFFFFFF#32).getLsbD 31 = false ∧ (0#32).getLsbD 31 = false := by decide

/-- One decoded record for each clause. -/
theorem witness_ExecutePhaseResults :
    ((recordOf (.sw 6 7 0)).rs1 = some 6 ∧ (recordOf (.sw 6 7 0)).imm = some 0 ∧ (recordOf (.sw 6 7 0)).rs2 = some 7) ∧
      ((recordOf (.add 1 2 3)).rs1 = some 2 ∧ (recordOf (.add 1 2 3)).imm = none ∧ (recordOf (.add 1 2 3)).rs2 = some 3) ∧
      (recordOf (.auipc 1 0)).rs1 = none ∧
      ((recordOf (.csrrw 1 2 3)).rs2 = none ∧ (recordOf (.csrrw 1 2 3)).imm = none) ∧
      (recordOf (.lw 1 2 0)).kind = .load ∧ (recordOf (.sw 1 2 0)).kind = .store ∧
      ((recordOf (.addi 1 2 0)).kind ≠ .load ∧ (recordOf (.addi 1 2 0)).kind ≠ .store) ∧
      (recordOf (.csrrsRs10 1 2)).kind = .csrRead ∧ (recordOf (.csrrwRd0 1 2)).kind = .csrWrite ∧
      (recordOf (.jal 1 0)).kind = .jump ∧ (recordOf (.jalr 1 2 0)).kind = .jumpRegister ∧
      ((recordOf (.auipc 1 0)).kind = .auipc ∧ (recordOf (.auipc 1 0)).imm = some 0) ∧
      (recordOf (.addi 1 2 0)).kind ∈ [Kind.alu, .load, .branch, .system, .unsupported] := by decide

/-- Every row of the table has a word: its pattern, and its pattern with every bit outside the mask set. These are the words
the row clauses of the result statements start from. -/
theorem witness_rows :
    (opcodeRows.all fun r =>
      r.pattern &&& r.mask == r.pattern && (r.pattern ||| ~~~r.mask) &&& r.mask == r.pattern) = true := by decide

/-- Where no-ops are not refused: UnassignedBranchIsNotTaken, UnsupportedLoadsHaveNoEffect, UnsupportedStoresHaveNoEffect,
NamedSystemWordsHaveNoEffect, OtherSystemWordsHaveNoEffect, FenceAtomicAndDefaultHaveNoEffect. -/
theorem witness_noOps : State.reset.params.refuseUnsupported = false := by decide

theorem witness_OtherSystemWordsHaveNoEffect :
    rdOf 0x34029373#32 ≠ 0#5 ∧ rs1Of 0x3403A373#32 ≠ 0#5 ∧ opcodeOf 0xFFF0C373#32 = 0x73#7 ∧
      funct3Of 0xFFF0C373#32 = 4#3 ∧ opcodeOf 0x12000073#32 = 0x73#7 ∧ funct3Of 0x12000073#32 = 0#3 ∧
      (0x12000073#32 : Word) ∉ [0x00000073#32, 0x00100073#32, 0x30200073#32, 0x10200073#32, 0x10500073#32] := by decide

/-- An aligned access at the last word of a map, and a misaligned one under `split`. LoadWordResult, StoreWordResult. -/
theorem witness_DataAccess :
    (let s := mapped [⟨0x1000, 0x10⟩] (withRegs [(6, 0x100C#32)])
     (s.getReg 6 + 0).toNat % 4 = 0 ∧ wordInMap s.params.memMap (s.getReg 6 + 0) = true) ∧
      (let s := splitting (mapped [⟨0x1000, 0x10⟩] (withRegs [(6, 0x100B#32)]))
       s.params.misalignedDataPolicy = .split ∧ wordInMap s.params.memMap (s.getReg 6 + 0) = true) := by decide

/-- Each clause, at the edge of a map; last, an address both misaligned and unmapped, where the order of the checks shows. -/
theorem witness_DataAccessFaults :
    (let s := withRegs [(6, 0x1003#32)]
     (s.getReg 6 + 0).toNat % 4 ≠ 0 ∧ s.params.misalignedDataPolicy = .fault) ∧
      (let s := mapped [⟨0x1000, 0x10⟩] (withRegs [(6, 0x1010#32)])
       (s.getReg 6 + 0).toNat % 4 = 0 ∧ wordInMap s.params.memMap (s.getReg 6 + 0) = false) ∧
      (let s := splitting (mapped [⟨0x1000, 0x10⟩] (withRegs [(6, 0x100D#32)]))
       s.params.misalignedDataPolicy = .split ∧ wordInMap s.params.memMap (s.getReg 6 + 0) = false) ∧
      (let s := mapped [⟨0x1000, 0x10⟩] (withRegs [(6, 0x1011#32)])
       ((s.getReg 6 + 0).toNat % 4 ≠ 0 ∧ s.params.misalignedDataPolicy = .fault) ∧
         wordInMap s.params.memMap (s.getReg 6 + 0) = false) := by decide

theorem witness_CsrPatternResults :
    State.reset.csr = .plain [] 0 ∧ completes (.csrrwRd0 5 0xFFF) State.reset = true := by decide

/-- A no-op of each refused sort; and, of the others, one that completes and one that faults. -/
theorem witness_StrictModeRefusesNoOps :
    (recordOf .amo).kind = .unsupported ∧ (recordOf .ecall).kind = .system ∧
      ((recordOf (.branchF301x 1 2 0)).kind = .branch ∧ (recordOf (.branchF301x 1 2 0)).brCond = .never) ∧
      (strictly State.reset).params.refuseUnsupported = true ∧
      (¬((recordOf (.lw 5 6 0)).kind = .unsupported ∨ (recordOf (.lw 5 6 0)).kind = .system ∨
          ((recordOf (.lw 5 6 0)).kind = .branch ∧ (recordOf (.lw 5 6 0)).brCond = .never)) ∧
        completes (.lw 5 6 0) { State.reset with params := { State.reset.params with refuseUnsupported := false } } = true ∧
        completes (.lw 5 6 1) { State.reset with params := { State.reset.params with refuseUnsupported := false } }
          = false) := by decide

/-- Every instruction completes on the state after reset. It meets the hypotheses of ComputationFrame, LoadAndCsrReadFrame,
NoRegisterFrame, StoreFrame, OnlyControlTransfersJump and OnlyStoreWritesMemory. -/
theorem witness_every_instruction_completes :
    ∀ i ∈ [Instr.addi 1 2 0, .slti 1 2 0, .sltiu 1 2 0, .xori 1 2 0, .ori 1 2 0, .andi 1 2 0, .slli 1 2 0, .srai 1 2 0,
        .srli 1 2 0, .sub 1 2 3, .add 1 2 3, .sll 1 2 3, .slt 1 2 3, .sltu 1 2 3, .xor 1 2 3, .sra 1 2 3, .srl 1 2 3,
        .or 1 2 3, .and 1 2 3, .lui 1 0, .auipc 1 0, .jal 1 0, .jalr 1 2 0, .beq 1 2 0, .bne 1 2 0, .blt 1 2 0,
        .bge 1 2 0, .bltu 1 2 0, .bgeu 1 2 0, .branchF301x 1 2 0] ++
        [.lb 1 2 0, .lh 1 2 0, .lw 1 2 0, .loadF3011 1 2 0, .lbu 1 2 0, .lhu 1 2 0, .loadF3110 1 2 0, .loadF3111 1 2 0,
        .sb 1 2 0, .sh 1 2 0, .sw 1 2 0, .storeF3011 1 2 0, .storeF31xx 1 2 0, .csrrwRd0 1 0, .csrrsRs10 1 0, .ecall,
        .ebreak, .mret, .sret, .wfi, .csrrw 1 2 0, .csrrs 1 2 0, .csrrc 1 2 0, .csrrwi 1 2 0, .csrrsi 1 2 0,
        .csrrci 1 2 0, .systemOther 1 2 0, .miscMem, .amo, .unrecognized],
      completes i State.reset = true := by decide

/-- A store, then a load of the same address through another register; and the store's effect is not the zero word. -/
theorem witness_LoadAfterStoreGivesTheStoredWord :
    (5#5 : RegId) ≠ 0#5 ∧
      (match exec (.sw 6 7 4) (withRegs [(6, 0x1000#32), (7, 0xAABBCCDD#32), (8, 0x1008#32)]) with
       | .next t => decide (t.getReg 8 + (-4) = 0x1000#32 + 4) && completes (.lw 5 8 (-4)) t
       | .fault _ | .refused _ => false) = true := by decide

/-- A store to the very next word of the program. -/
theorem witness_StoreIsFetchedByTheNextStep :
    (match exec (.sw 6 7 4) (withRegs [(6, 0x100#32), (7, 0x00500093#32)]) with
     | .next t => decide (0x100#32 + 4 = t.pc ∧ t.pc.toNat % 4 = 0) && wordInMap t.params.memMap t.pc
     | .fault _ | .refused _ => false) = true := by decide

theorem witness_StepRunsTheDecodedInstruction :
    let s := at100 [] 0x00832283
    s.pc.toNat % 4 = 0 ∧ wordInMap s.params.memMap s.pc = true ∧
      decode [s.mem.readByte s.pc, s.mem.readByte (s.pc + 1), s.mem.readByte (s.pc + 2), s.mem.readByte (s.pc + 3)] =
        .ok (.lw 5 6 8, []) := by decide

/-- Each clause; the second at a pc whose word lies only partly in the map. -/
theorem witness_FetchFaults :
    (3#32).toNat % 4 ≠ 0 ∧
      (let s := mapped [⟨0, 0x102⟩] (withRegs [])
       s.pc.toNat % 4 = 0 ∧ wordInMap s.params.memMap s.pc = false) := by decide

/-- Each of the three causes faults: StepFaultsOnlyByTheThreeCauses, EveryWordExecutes. -/
theorem witness_StepFaultsOnlyByTheThreeCauses :
    faults { State.reset with pc := 2 } (.fetchMisaligned 2) = true ∧
      faults (mapped [] State.reset) (.accessFault 0) = true ∧
      faults (at100 [(6, 1#32)] 0x00032283) (.dataMisaligned 1) = true ∧
      faults (mapped [⟨0x100, 4⟩] (at100 [] 0x00702023)) (.accessFault 0) = true := by decide

theorem witness_EveryWordExecutes :
    State.reset.params.refuseUnsupported = false ∧ State.reset.pc.toNat % 4 = 0 ∧
      wordInMap State.reset.params.memMap State.reset.pc = true ∧
      idles (at100 [] 0xFFFFFFFF) = true := by decide

theorem witness_WithFetchWordRunsTheWord :
    (let s := mapped [⟨0xFFFFFFFC, 4⟩] { State.reset with pc := 0xFFFFFFFC }
     s.pc.toNat % 4 = 0 ∧ wordInMap s.params.memMap s.pc = true) := by decide

/-- A taken and a not taken branch, and a jump through a register. -/
theorem witness_OnlyControlTransfersJump :
    pcAfter (at100 [] 0x00000863) = some 0x110#32 ∧ pcAfter (at100 [(1, 1#32)] 0x00100863) = some 0x104#32 ∧
      pcAfter (at100 [(5, 0x200#32)] 0x00128067) = some 0x201#32 := by decide

/-- Each clause: an even offset; a jump that completes at a misaligned pc, and the fault of the step after it. -/
theorem witness_MisalignedTargetFaultsAtTheNextFetch :
    (Instr.beq 0 0 6).wf = true ∧ (Instr.jal 0 (-2)).wf = true ∧
      ((recordOf (.beq 0 0 6)).kind = .branch ∧
        (match exec (.beq 0 0 6) (withRegs []) with
         | .next t => decide (t.pc.toNat % 2 = 0 ∧ t.pc.toNat % 4 ≠ 0) && faults t (.fetchMisaligned 0x106)
         | .fault _ | .refused _ => false) = true) := by decide

theorem witness_OneRegisterAtMostPerStep :
    (match exec (.addi 31 0 1) State.reset with
     | .next t => decide (t.getReg 31 ≠ State.reset.getReg 31)
     | .fault _ | .refused _ => false) = true := by decide

theorem witness_OneNotificationPerCompletedStep :
    State.reset.csr = .plain [] 0 ∧ idles State.reset = true ∧
      (∀ rs1 c, decodeWord (State.reset.mem.readWord State.reset.pc) ≠ .csrrwRd0 rs1 c) :=
  ⟨by decide, by decide, (fun _ _ h => by cases h)⟩

/-- A faulting, a refused and a completed step; an instruction of no CSR kind; a register no CSR is read into. -/
theorem witness_CsrFileOnlyThroughItsKinds :
    faults { State.reset with pc := 2 } (.fetchMisaligned 2) = true ∧
      refuses (strictly State.reset) (.noOpRefused .unsupported) = true ∧ idles State.reset = true ∧
      (∀ c, decodeWord (State.reset.mem.readWord State.reset.pc) ≠ .csrrsRs10 1 c) ∧
      ((∀ rs1 c, Instr.addi 1 2 0 ≠ .csrrwRd0 rs1 c) ∧ (∀ rd c, Instr.addi 1 2 0 ≠ .csrrsRs10 rd c) ∧
        completes (.addi 1 2 0) State.reset = true) :=
  ⟨by decide, by decide, by decide, (fun _ h => by cases h), ⟨(fun _ _ h => by cases h), (fun _ _ h => by cases h), by decide⟩⟩

/-- Completed steps of the kinds that drive the enables. -/
theorem witness_PortsDriveTheStep :
    lands (at100 [] 0x00832283) [] 0x104 = true ∧ lands (at100 [] 0x00732623) [] 0x104 = true ∧
      lands (at100 [] 0x34029073) [] 0x104 = true ∧ lands (at100 [] 0x34002373) [] 0x104 = true := by decide

theorem witness_StepKeepsTheInvariant :
    (let s := memAt [(6, 0x1000#32), (7, 1#32)] 0x00732623
     s.mem.wf = true ∧ s.csr.wf = true ∧ s.regs[0] = 0 ∧ lands s [] 0x104 = true) := by decide

theorem witness_FirstStepAfterReset :
    ((0x100#32).toNat % 4 = 0 ∧ wordInMap State.reset.params.memMap 0x100 = true) ∧ (0x101#32).toNat % 4 ≠ 0 ∧
      State.reset.csr = .plain [] 0 := by decide

theorem witness_JumpToItselfLoopsForever :
    let s := at100 [] 0x0000006F
    s.pc.toNat % 4 = 0 ∧ wordInMap s.params.memMap s.pc = true ∧ s.mem.readWord s.pc = 0x0000006F#32 := by decide

theorem witness_ZeroMemoryIsRunThrough :
    (∀ a, State.reset.mem.readByte a = 0) ∧ (∀ a, inMap State.reset.params.memMap a = true) ∧
      State.reset.params.refuseUnsupported = false ∧ State.reset.pc.toNat % 4 = 0 := by
  refine ⟨fun _ => rfl, fun a => ?_, by decide, by decide⟩
  have h : a.toNat < 4294967296 := a.isLt
  simp [inMap, State.reset, Config.params, Region.has, h]

end Sys2Proof.Tests
end

section
/-! PROOFS. The state (10_state.md): what a step can change, the invariant, and noninterference of the CSR collaborator. -/

namespace Sys2Proof.Machine

/-! ## The step by its fetch -/

/-- Where the fetch faults, so does the step. -/
theorem step_of_fetchWord_error {s : State} {f : Fault} (h : fetchWord s = .error f) : step s = .fault f := by
  simp only [step, h]

/-- Where the fetch succeeds, the step runs the instruction fetched. -/
theorem step_of_fetchWord_ok {s : State} {w : Word} (h : fetchWord s = .ok w) : step s = exec (decodeWord w) s := by
  simp only [step, h]

/-- The fetch of a pc that is no multiple of 4 faults, mapped or not (R44, R263). -/
theorem fetchWord_of_misaligned {s : State} (h : s.pc.toNat % 4 ≠ 0) : fetchWord s = .error (.fetchMisaligned s.pc) := by
  simp [fetchWord, isAligned_eq, h]

/-- A completed instruction is the end of a step of its executed record. -/
theorem exec_eq_next_commit {i : Instr} {s t : State} (h : exec i s = .next t) :
    t = commit (executed (recordOf i) s) s := by
  rw [exec_eq_runRecord] at h
  obtain ⟨-, -, rfl⟩ := runRecord_eq_next.1 h
  rfl

/-! ## The register write -/

/-- The kinds that may write a register (R112). -/
theorem writesRegister_iff (k : Kind) :
    writesRegister k = true ↔
      k = .alu ∨ k = .auipc ∨ k = .jump ∨ k = .jumpRegister ∨ k = .load ∨ k = .csrRead := by
  cases k <;> decide

/-- Everything the write-back does to the registers (R112). -/
theorem writeBack_getReg (d : Decoded) (v : Word) (s : State) (q : RegId) :
    (writeBack d v s).getReg q =
      if writesRegister d.kind = true ∧ d.rd = some q ∧ q ≠ 0#5 then v else s.getReg q := by
  by_cases h : writesRegister d.kind = true ∧ d.rd = some q
  · simp [writeBack, h, State.getReg_setReg]
  · rw [writeBack_getReg_other d v s q (by simpa [or_iff_not_imp_left] using h),
      if_neg fun ⟨hk, hd, _⟩ => h ⟨hk, hd⟩]

/-! ## The CSR kinds -/

/-- Only the two CSR patterns read a CSR (R107, R230). -/
theorem readsCsr_recordOf {i : Instr} (h : readsCsr (recordOf i).kind = true) :
    ∃ (r : RegId) (c : CsrIndex), i = .csrrwRd0 r c ∨ i = .csrrsRs10 r c := by
  cases i with
  | csrrwRd0 r c => exact ⟨r, c, .inl rfl⟩
  | csrrsRs10 r c => exact ⟨r, c, .inr rfl⟩
  | _ =>
    simp [recordOf, opImmRecord, opRecord, luiRecord, auipcRecord, jalRecord, jalrRecord, branchRecord, loadRecord,
      storeRecord, systemRecord, noFieldRecord, blankRecord, readsCsr] at h

/-- A record of kind CsrRead with destination `q` is that of the CSR read into `q` (R232). -/
theorem recordOf_csrRead {i : Instr} {q : RegId} (hk : (recordOf i).kind = .csrRead) (hd : (recordOf i).rd = some q) :
    ∃ c, i = .csrrsRs10 q c := by
  obtain ⟨r, c, rfl | rfl⟩ := readsCsr_recordOf (i := i) (by rw [hk]; rfl)
  · simp [recordOf, systemRecord] at hk
  · have hr : (recordOf (.csrrsRs10 r c)).rd = if r = 0#5 then none else some r := normalize_rd rfl
    rw [hd] at hr
    split at hr
    · cases hr
    · cases hr; exact ⟨c, rfl⟩

/-- An instruction of no CSR kind leaves the collaborator the notification and the message call (R31). -/
theorem commit_csr_of_not_readsCsr {d : Decoded} (h : readsCsr d.kind = false) (s : State) :
    (commit d s).csr = s.csr.instructionExecuted.getMessage.2 := by
  have hk : d.kind ≠ .csrWrite := by intro e; simp [e, readsCsr] at h
  rw [commit_csr, readCsr_other h, csrWritePhase_other hk]

/-! ## The invariant -/

theorem wf_storePhase {m : Memory} (h : m.wf = true) (d : Decoded) : (storePhase d m).wf = true := by
  unfold storePhase
  split
  · exact Memory.wf_writeWord h _ _
  · exact h

theorem wf_readCsr {f : CsrFile} (h : f.wf = true) (d : Decoded) : (readCsr d f).2.wf = true := by
  unfold readCsr
  split
  · exact CsrFile.wf_read h _
  · exact h

theorem wf_csrWritePhase {f : CsrFile} (h : f.wf = true) (d : Decoded) : (csrWritePhase d f).wf = true := by
  unfold csrWritePhase
  split
  · exact CsrFile.wf_write h _ _
  · exact h

/-- The end of a step keeps the invariant, whatever the record. -/
theorem commit_keeps_inv {s : State} (h : s.Inv) (d : Decoded) : (commit d s).Inv := by
  obtain ⟨hmem, hcsr, hslot⟩ := h
  refine ⟨?_, ?_, ?_⟩
  · rw [commit_mem]
    exact wf_storePhase hmem d
  · rw [commit_csr]
    exact CsrFile.wf_getMessage (CsrFile.wf_instructionExecuted (wf_csrWritePhase (wf_readCsr hcsr d) d))
  · rw [commit_slot0]
    exact hslot

theorem resetAt_keeps_inv {s : State} (h : s.Inv) (a : Word) : (s.resetAt a).Inv := by
  obtain ⟨hmem, -, hslot⟩ := h
  exact ⟨hmem, s.csr.wf_reset, hslot⟩

theorem withFetchWord_keeps_inv {s : State} (h : s.Inv) (n w : Nat) : (s.withFetchWord n w).Inv := by
  obtain ⟨hmem, hcsr, hslot⟩ := h
  exact ⟨Memory.wf_writeWord hmem _ _, hcsr, hslot⟩

/-! ## Two states that differ only in the CSR collaborator and the message -/

/-- The write-back value is the CSR value for kind CsrRead alone (R110). -/
theorem wbSelect_csrVal {d : Decoded} (h : d.kind ≠ .csrRead) (v out pc : Word) :
    wbSelect { d with csrVal := v } out pc = wbSelect d out pc := by
  cases hk : d.kind with
  | csrRead => exact absurd hk h
  | _ => simp only [wbSelect, hk, immValue]

section CsrChange

variable (d : Decoded) (s : State) (f : CsrFile) (m : Option Word)

/-! No fetch, fault or next pc depends on a CSR: what they are computed from is the same data (R31). -/

theorem fetchWord_csr_change : fetchWord { s with csr := f, message := m } = fetchWord s := rfl

theorem executed_addr_csr_change : (executed d { s with csr := f, message := m }).addr = (executed d s).addr := rfl

theorem executed_nextPc_csr_change :
    (executed d { s with csr := f, message := m }).nextPc = (executed d s).nextPc := rfl

theorem recordFault_csr_change :
    recordFault (executed d { s with csr := f, message := m }) s.params = recordFault (executed d s) s.params := rfl

/-- The second state's bound record differs from the first's in the CSR value alone (R107). -/
theorem executed_result_csr_change {d : Decoded} (h : d.kind ≠ .csrRead) :
    (executed d { s with csr := f, message := m }).result = (executed d s).result :=
  wbSelect_csrVal (d := d.bind s) h (readCsr d f).1 _ _

theorem wbData_csr_change {d : Decoded} (h : d.kind ≠ .csrRead) :
    wbData (executed d { s with csr := f, message := m }) s.mem = wbData (executed d s) s.mem := by
  simp only [wbData, executed_kind, executed_addr_csr_change, executed_result_csr_change s f m h]

theorem storePhase_csr_change :
    storePhase (executed d { s with csr := f, message := m }) s.mem = storePhase (executed d s) s.mem := by
  by_cases h : d.kind = .csrRead
  · rw [storePhase_other (by simp [h]), storePhase_other (by simp [h])]
  · simp only [storePhase, executed_kind, executed_addr_csr_change, executed_result_csr_change s f m h]

/-- The registers after a step agree, but for the destination of a CSR read. -/
theorem commit_getReg_csr_change {q : RegId} (h : d.kind = .csrRead → d.rd ≠ some q) :
    (commit (executed d { s with csr := f, message := m }) { s with csr := f, message := m }).getReg q =
      (commit (executed d s) s).getReg q := by
  simp only [commit_getReg, writeBack_getReg, executed_kind, executed_rd]
  by_cases hk : d.kind = .csrRead
  · simp only [h hk, false_and, and_false, if_false]
    rfl
  · rw [wbData_csr_change s f m hk]
    rfl

theorem runRecord_fault_csr_change {d : Decoded} {s : State} {e : Fault} (h : runRecord d s = .fault e) :
    runRecord d { s with csr := f, message := m } = .fault e := by
  obtain ⟨hn, hf⟩ := runRecord_eq_fault.1 h
  exact runRecord_eq_fault.2 ⟨hn, (recordFault_csr_change d s f m).trans hf⟩

theorem runRecord_refused_csr_change {d : Decoded} {s : State} {r : Refusal} (h : runRecord d s = .refused r) :
    runRecord d { s with csr := f, message := m } = .refused r := by
  obtain ⟨hn, hr⟩ := runRecord_eq_refused.1 h
  exact runRecord_eq_refused.2 ⟨hn, hr⟩

/-- A record that completes in the first state completes in the second, with the same next state but for the collaborator,
the message and the destination of a CSR read. -/
theorem runRecord_next_csr_change {d : Decoded} {s t : State} (h : runRecord d s = .next t) :
    ∃ u, runRecord d { s with csr := f, message := m } = .next u ∧
      u.pc = t.pc ∧ u.mem = t.mem ∧ u.params = t.params ∧
      ∀ q, (d.kind = .csrRead → d.rd ≠ some q) → u.getReg q = t.getReg q := by
  obtain ⟨hn, hf, rfl⟩ := runRecord_eq_next.1 h
  refine ⟨_, runRecord_eq_next.2 ⟨hn, (recordFault_csr_change d s f m).trans hf, rfl⟩, executed_nextPc_csr_change d s f m,
    ?_, ?_, fun q hq => commit_getReg_csr_change d s f m hq⟩
  · simp only [commit_mem, storePhase_csr_change]
  · simp only [commit_params]

end CsrChange

/-! ## The obligations of 10_state.md -/

/-- Settles O53: the fetch and the record are the same in both states, and the CSR value reaches only the destination of
kind CsrRead. -/
theorem csrFileOnlyThroughItsKinds : Obligations.CsrFileOnlyThroughItsKinds := by
  unfold Obligations.CsrFileOnlyThroughItsKinds
  refine ⟨fun s f m => ?_, fun i s t hw hr h => ?_⟩
  · have hfetch := fetchWord_csr_change s f m
    cases hs : fetchWord s with
    | error e =>
      rw [step_of_fetchWord_error hs, step_of_fetchWord_error (hfetch.trans hs)]
      exact ⟨fun _ h => h, fun _ h => h, fun _ h => by cases h⟩
    | ok w =>
      obtain ⟨-, -, rfl⟩ := fetchWord_ok hs
      rw [step_of_fetchWord_ok hs, step_of_fetchWord_ok (hfetch.trans hs), exec_eq_runRecord, exec_eq_runRecord]
      refine ⟨fun _ => runRecord_fault_csr_change f m, fun _ => runRecord_refused_csr_change f m, fun t h => ?_⟩
      obtain ⟨u, hu, hpc, hmem, hparams, hreg⟩ := runRecord_next_csr_change f m h
      refine ⟨u, hu, hpc, hmem, hparams, fun q hq => hreg q fun hk hd => ?_⟩
      obtain ⟨c, hc⟩ := recordOf_csrRead hk hd
      exact hq c hc
  · have hc : readsCsr (recordOf i).kind = false := by
      by_contra hk
      obtain ⟨r, c, hi | hi⟩ := readsCsr_recordOf (Bool.of_not_eq_false hk)
      · exact hw r c hi
      · exact hr r c hi
    rw [exec_eq_next_commit h]
    exact commit_csr_of_not_readsCsr (d := executed (recordOf i) s) hc s

/-- Settles O56: a completed step is the end of its record, which keeps each part of the invariant. -/
theorem stepKeepsTheInvariant : Obligations.StepKeepsTheInvariant := by
  unfold Obligations.StepKeepsTheInvariant
  refine ⟨fun s t hs h => ?_, fun s a hs => resetAt_keeps_inv hs a, fun s n w hs => withFetchWord_keeps_inv hs n w⟩
  obtain ⟨-, -, h⟩ := step_eq_next h
  rw [exec_eq_next_commit h]
  exact commit_keeps_inv hs _

/-- Settles O50: the registers after a step are those of the write-back. -/
theorem oneRegisterAtMostPerStep : Obligations.OneRegisterAtMostPerStep := by
  unfold Obligations.OneRegisterAtMostPerStep
  intro i s t q h hne
  rw [exec_eq_next_commit h, commit_getReg, writeBack_getReg, ite_ne_right_iff] at hne
  obtain ⟨⟨hk, hd, -⟩, -⟩ := hne
  exact ⟨hd, (writesRegister_iff _).1 hk⟩

/-- Settles O58: the fetch after reset is that of the start address, and memory and map are as before. -/
theorem firstStepAfterReset : Obligations.FirstStepAfterReset := by
  unfold Obligations.FirstStepAfterReset
  refine fun s a => ⟨fun ha hm => ?_, fun ha => ?_, fun cells n c hc => ?_, s.resetAt_params a⟩
  · exact step_of_fetchWord_ok (fetchWord_eq_ok (s := s.resetAt a) ha hm)
  · exact step_of_fetchWord_error (fetchWord_of_misaligned (s := s.resetAt a) ha)
  · rw [State.resetAt_csr, hc]
    exact sparseGet_nil csrResetWord c.toNat

/-- Settles O55: both lists are empty, and slot 0 is set to 0. -/
theorem resetStateMeetsTheInvariant : Obligations.ResetStateMeetsTheInvariant := by
  unfold Obligations.ResetStateMeetsTheInvariant
  exact ⟨rfl, rfl, by simp [State.reset]⟩

end Sys2Proof.Machine
end

section
/-! PROOFS. Memory (20_memory.md): the bytes of a word, the faults of a fetch and of a data access, and what a store leaves
for the next load and the next fetch. -/

namespace Sys2Proof.Machine

/-! ## Words and their bytes as numbers (R43) -/

/-- The word of four bytes in arithmetic, the first byte the least significant. -/
theorem toNat_wordOfBytes (b0 b1 b2 b3 : Byte) :
    (wordOfBytes b0 b1 b2 b3).toNat = b0.toNat + 256 * b1.toNat + 65536 * b2.toNat + 16777216 * b3.toNat := by
  simp only [wordOfBytes, BitVec.toNat_append, ← Nat.shiftLeft_add_eq_or_of_lt, BitVec.isLt]
  omega

/-- The byte of a word at a position in arithmetic. -/
theorem toNat_byteOfWord (k : Nat) (w : Word) : (byteOfWord k w).toNat = w.toNat / 2 ^ (8 * k) % 256 := by
  simp only [byteOfWord, BitVec.extractLsb'_toNat, Nat.shiftRight_eq_div_pow]

/-! ## The faults of an access (R44, R46, R49, R263) -/

/-- A data access at no multiple of 4 under the policy `fault`, mapped or not (R46, R263). -/
theorem dataFault_of_misaligned {p : Params} {a : Word} (h : a.toNat % 4 ≠ 0) (hp : p.misalignedDataPolicy = .fault) :
    dataFault p a = some (.dataMisaligned a) := by
  simp [dataFault, isAligned_eq, h, hp]

/-- A data access that the alignment check lets through, outside the map (R49). -/
theorem dataFault_of_unmapped {p : Params} {a : Word} (h : a.toNat % 4 = 0 ∨ p.misalignedDataPolicy = .split)
    (hm : wordInMap p.memMap a = false) : dataFault p a = some (.accessFault a) := by
  rcases h with h | h <;> simp [dataFault, isAligned_eq, h, hm]

/-- The fetch of an aligned pc outside the map faults (R49). -/
theorem fetchWord_of_unmapped {s : State} (h : s.pc.toNat % 4 = 0) (hm : wordInMap s.params.memMap s.pc = false) :
    fetchWord s = .error (.accessFault s.pc) := by
  simp [fetchWord, isAligned_eq, h, hm]

/-! ## LW, SW and the other instructions -/

/-- LW ends in the fault of its data access. -/
theorem exec_lw_of_dataFault {rd rs1 : RegId} {imm : Word} {s : State} {f : Fault}
    (h : dataFault s.params (s.getReg rs1 + imm) = some f) : exec (.lw rd rs1 imm) s = .fault f := by
  rw [exec_eq_runRecord]
  exact (runRecord_load rd rs1 imm s).trans (by rw [h])

/-- SW ends in the fault of its data access. -/
theorem exec_sw_of_dataFault {rs1 rs2 : RegId} {imm : Word} {s : State} {f : Fault}
    (h : dataFault s.params (s.getReg rs1 + imm) = some f) : exec (.sw rs1 rs2 imm) s = .fault f := by
  rw [exec_eq_runRecord]
  exact (runRecord_store rs1 rs2 imm s).trans (by rw [h])

/-- Everything a completed LW does to the state (R211). -/
theorem exec_lw_eq_next {rd rs1 : RegId} {imm : Word} {s t : State} (h : exec (.lw rd rs1 imm) s = .next t) :
    t = (s.setReg rd (s.mem.readWord (s.getReg rs1 + imm))).retire (s.pc + 4) := by
  cases hf : dataFault s.params (s.getReg rs1 + imm) with
  | some f => rw [exec_lw_of_dataFault hf] at h; cases h
  | none =>
    have hr := runRecord_load rd rs1 imm s
    rw [hf] at hr
    rw [exec_eq_runRecord] at h
    injection h.symm.trans hr

/-- Everything a completed SW does to the state (R214). -/
theorem exec_sw_eq_next {rs1 rs2 : RegId} {imm : Word} {s t : State} (h : exec (.sw rs1 rs2 imm) s = .next t) :
    t = State.retire { s with mem := s.mem.writeWord (s.getReg rs1 + imm) (s.getReg rs2) } (s.pc + 4) := by
  cases hf : dataFault s.params (s.getReg rs1 + imm) with
  | some f => rw [exec_sw_of_dataFault hf] at h; cases h
  | none =>
    have hr := runRecord_store rs1 rs2 imm s
    rw [hf] at hr
    rw [exec_eq_runRecord] at h
    injection h.symm.trans hr

/-- After a completed SW the word at its address is the stored one. -/
theorem readWord_of_exec_sw {rs1 rs2 : RegId} {imm : Word} {s t : State} (h : exec (.sw rs1 rs2 imm) s = .next t) :
    t.mem.readWord (s.getReg rs1 + imm) = s.getReg rs2 := by
  rw [exec_sw_eq_next h]
  exact s.mem.readWord_writeWord_same _ _

/-- SW is the only instruction of kind Store (R114). -/
theorem recordOf_store {i : Instr} (h : (recordOf i).kind = .store) : ∃ rs1 rs2 imm, i = .sw rs1 rs2 imm := by
  obtain ⟨r, rs1, imm, rfl | rfl⟩ := accessesMemory_recordOf (i := i) (by rw [h]; rfl)
  · simp [recordOf, loadRecord] at h
  · exact ⟨rs1, r, imm, rfl⟩

/-! ## The obligations of 20_memory.md -/

/-- Settles O27: LW and SW end in the fault of the one data access check, which asks for alignment first. -/
theorem dataAccessFaults : Obligations.DataAccessFaults := by
  unfold Obligations.DataAccessFaults
  refine fun r rs1 imm s => ⟨fun ha hp => ?_, fun ha hm => ?_⟩
  · have hf := dataFault_of_misaligned ha hp
    exact ⟨exec_lw_of_dataFault hf, exec_sw_of_dataFault hf⟩
  · have hf := dataFault_of_unmapped ha hm
    exact ⟨exec_lw_of_dataFault hf, exec_sw_of_dataFault hf⟩

/-- Settles O39: the word and its bytes in arithmetic; the top byte needs no modulus, the word being below 2^32. -/
theorem wordAccessIsLittleEndian : Obligations.WordAccessIsLittleEndian := by
  unfold Obligations.WordAccessIsLittleEndian
  intro m a v
  obtain ⟨h0, h1, h2, h3⟩ := m.readByte_writeWord_inside a v
  have hv : v.toNat < 4294967296 := v.isLt
  rw [h0, h1, h2, h3]
  refine ⟨toNat_wordOfBytes _ _ _ _, ?_, toNat_byteOfWord 1 v, toNat_byteOfWord 2 v, ?_,
    fun b hb hb1 hb2 hb3 => m.readByte_writeWord_outside a v b ⟨hb, hb1, hb2, hb3⟩⟩
  · simpa using toNat_byteOfWord 0 v
  · rw [toNat_byteOfWord]
    omega

/-- Settles O40: the load reads the word the store left at that address. -/
theorem loadAfterStoreGivesTheStoredWord : Obligations.LoadAfterStoreGivesTheStoredWord := by
  unfold Obligations.LoadAfterStoreGivesTheStoredWord
  intro rd rs1 rs2 rs3 imm imm2 s t u hrd hsw ha hlw
  rw [exec_lw_eq_next hlw, State.retire_getReg, State.getReg_setReg_same t hrd, ha, readWord_of_exec_sw hsw]

/-- Settles O41: the fetch reads the same memory as a load, so it gives the word the store left there. -/
theorem storeIsFetchedByTheNextStep : Obligations.StoreIsFetchedByTheNextStep := by
  unfold Obligations.StoreIsFetchedByTheNextStep
  intro rs1 rs2 imm s t hsw ha hal hm
  rw [step_of_fetchWord_ok (fetchWord_eq_ok hal hm), ← ha, readWord_of_exec_sw hsw]

/-- Settles O44: a step whose fetch faults ends in that fault. -/
theorem fetchFaults : Obligations.FetchFaults := by
  unfold Obligations.FetchFaults
  exact fun s => ⟨fun ha => step_of_fetchWord_error (fetchWord_of_misaligned ha),
    fun ha hm => step_of_fetchWord_error (fetchWord_of_unmapped ha hm)⟩

/-- Settles O51: the end of a step keeps the parameters, and changes memory for kind Store alone. -/
theorem onlyStoreWritesMemory : Obligations.OnlyStoreWritesMemory := by
  unfold Obligations.OnlyStoreWritesMemory
  intro i s t h
  rw [exec_eq_next_commit h]
  refine ⟨commit_params _ s, fun hi => ?_⟩
  have hk : (recordOf i).kind ≠ .store := by
    intro hk
    obtain ⟨rs1, rs2, imm, he⟩ := recordOf_store hk
    exact hi rs1 rs2 imm he
  rw [commit_mem, storePhase_other (d := executed (recordOf i) s) hk]

end Sys2Proof.Machine
end

section
/-! PROOFS. Encoding and decoding (30_encoding.md): the decoder by opcode class, decode after encode, the opcode table against
the field decoder, the dispatcher, the immediates, and what every decoded word satisfies. -/

namespace Sys2Proof

/-! ## The decoder by opcode class (R73, R74) -/

/-- The twelve opcode values that have a class (R73). -/
def classOpcodes : List Opcode :=
  [0x13#7, 0x33#7, 0x37#7, 0x17#7, 0x6F#7, 0x67#7, 0x63#7, 0x03#7, 0x23#7, 0x73#7, 0x0F#7, 0x2F#7]

theorem opcode_cases (op : Opcode) :
    op = 0x13#7 ∨ op = 0x33#7 ∨ op = 0x37#7 ∨ op = 0x17#7 ∨ op = 0x6F#7 ∨ op = 0x67#7 ∨ op = 0x63#7 ∨ op = 0x03#7 ∨
      op = 0x23#7 ∨ op = 0x73#7 ∨ op = 0x0F#7 ∨ op = 0x2F#7 ∨ op ∉ classOpcodes := by
  decide +revert

section OpcodeClass

variable {w : Word}

theorem decodeWord_opImm (h : opcodeOf w = 0x13#7) : decodeWord w = decodeOpImm w := by simp [decodeWord, h]

theorem decodeWord_op (h : opcodeOf w = 0x33#7) : decodeWord w = decodeOp w := by simp [decodeWord, h]

theorem decodeWord_lui (h : opcodeOf w = 0x37#7) : decodeWord w = .lui (rdOf w) (immU w) := by simp [decodeWord, h]

theorem decodeWord_auipc (h : opcodeOf w = 0x17#7) : decodeWord w = .auipc (rdOf w) (immU w) := by simp [decodeWord, h]

theorem decodeWord_jal (h : opcodeOf w = 0x6F#7) : decodeWord w = .jal (rdOf w) (immJ w) := by simp [decodeWord, h]

theorem decodeWord_jalr (h : opcodeOf w = 0x67#7) : decodeWord w = .jalr (rdOf w) (rs1Of w) (immI w) := by
  simp [decodeWord, h]

theorem decodeWord_branch (h : opcodeOf w = 0x63#7) : decodeWord w = decodeBranch w := by simp [decodeWord, h]

theorem decodeWord_load (h : opcodeOf w = 0x03#7) : decodeWord w = decodeLoad w := by simp [decodeWord, h]

theorem decodeWord_store (h : opcodeOf w = 0x23#7) : decodeWord w = decodeStore w := by simp [decodeWord, h]

theorem decodeWord_system (h : opcodeOf w = 0x73#7) : decodeWord w = decodeSystem w := by simp [decodeWord, h]

theorem decodeWord_miscMem (h : opcodeOf w = 0x0F#7) : decodeWord w = .miscMem := by simp [decodeWord, h]

theorem decodeWord_amo (h : opcodeOf w = 0x2F#7) : decodeWord w = .amo := by simp [decodeWord, h]

theorem decodeWord_default (h : opcodeOf w ∉ classOpcodes) : decodeWord w = .unrecognized := by
  simp only [classOpcodes, List.mem_cons, List.not_mem_nil, or_false, not_or] at h
  simp [decodeWord, h]

/-- The five SYSTEM words that have a name have `funct3` 000 (R230). -/
theorem ne_namedSystemWord (h : funct3Of w ≠ 0#3) :
    w ≠ 0x00000073#32 ∧ w ≠ 0x00100073#32 ∧ w ≠ 0x30200073#32 ∧ w ≠ 0x10200073#32 ∧ w ≠ 0x10500073#32 := by
  refine ⟨?_, ?_, ?_, ?_, ?_⟩ <;>
  · rintro rfl
    exact h (by decide)

end OpcodeClass

/-! ## Encoding, then decoding (R62 to R79) -/

/-- Each layout gives back the fields and the immediate it was built from; the class then reads its function code. -/
theorem decodeWord_encode (i : Instr) (h : i.wf = true) : decodeWord (encode i) = i := by
  cases i with
  | addi rd rs1 imm | slti rd rs1 imm | sltiu rd rs1 imm | xori rd rs1 imm | ori rd rs1 imm | andi rd rs1 imm
  | slli rd rs1 imm =>
    simp [encode, decodeWord_opImm, decodeOpImm, encI_fields, immI_encI h]
  | srai rd rs1 imm | srli rd rs1 imm =>
    simp [encode, decodeWord_opImm, decodeOpImm, encR_fields, immShamt_encR h]
  | sub rd rs1 rs2 | add rd rs1 rs2 | sll rd rs1 rs2 | slt rd rs1 rs2 | sltu rd rs1 rs2 | xor rd rs1 rs2
  | sra rd rs1 rs2 | srl rd rs1 rs2 | or rd rs1 rs2 | and rd rs1 rs2 =>
    simp [encode, decodeWord_op, decodeOp, encR_fields]
  | lui rd imm => simp [encode, decodeWord_lui, encU_fields, immU_encU h]
  | auipc rd imm => simp [encode, decodeWord_auipc, encU_fields, immU_encU h]
  | jal rd imm =>
    obtain ⟨hs, he⟩ := Bool.and_eq_true_iff.1 h
    simp [encode, decodeWord_jal, encJ_fields, immJ_encJ hs he]
  | jalr rd rs1 imm => simp [encode, decodeWord_jalr, encI_fields, immI_encI h]
  | beq rs1 rs2 imm | bne rs1 rs2 imm | blt rs1 rs2 imm | bge rs1 rs2 imm | bltu rs1 rs2 imm | bgeu rs1 rs2 imm
  | branchF301x rs1 rs2 imm =>
    obtain ⟨hs, he⟩ := Bool.and_eq_true_iff.1 h
    simp [encode, decodeWord_branch, decodeBranch, encB_fields, immB_encB hs he]
  | lb rd rs1 imm | lh rd rs1 imm | lw rd rs1 imm | loadF3011 rd rs1 imm | lbu rd rs1 imm | lhu rd rs1 imm
  | loadF3110 rd rs1 imm | loadF3111 rd rs1 imm =>
    simp [encode, decodeWord_load, decodeLoad, encI_fields, immI_encI h]
  | sb rs1 rs2 imm | sh rs1 rs2 imm | sw rs1 rs2 imm | storeF3011 rs1 rs2 imm | storeF31xx rs1 rs2 imm =>
    simp [encode, decodeWord_store, decodeStore, encS_fields, immS_encS h]
  | csrrwRd0 rs1 csr | csrrsRs10 rd csr | csrrc rd rs1 csr | csrrwi rd rs1 csr | csrrsi rd rs1 csr | csrrci rd rs1 csr
  | systemOther rd rs1 csr =>
    simp [encode, decodeWord_system, decodeSystem, encCsr_fields, ne_namedSystemWord]
  | csrrw rd rs1 csr =>
    have hrd : rd ≠ 0#5 := of_decide_eq_true h
    simp [encode, decodeWord_system, decodeSystem, encCsr_fields, ne_namedSystemWord, hrd]
  | csrrs rd rs1 csr =>
    have hrs1 : rs1 ≠ 0#5 := of_decide_eq_true h
    simp [encode, decodeWord_system, decodeSystem, encCsr_fields, ne_namedSystemWord, hrs1]
  | ecall | ebreak | mret | sret | wfi | miscMem | amo | unrecognized => decide

/-- The bytes of a word, lowest address first, decode to the word's instruction, and what follows them is left (R43, R60). -/
theorem decode_bytesOfWord (w : Word) (rest : List Byte) : decode (bytesOfWord w ++ rest) = .ok (decodeWord w, rest) := by
  show Except.ok (decodeWord (wordOfBytes (byteOfWord 0 w) (byteOfWord 1 w) (byteOfWord 2 w) (byteOfWord 3 w)), rest) = _
  rw [Machine.wordOfBytes_byteOfWord]

/-- Fewer than four bytes are no instruction (R60). -/
theorem decode_of_length_lt {bs : List Byte} (h : bs.length < 4) : decode bs = .error .truncated := by
  match bs with
  | [] | [_] | [_, _] | [_, _, _] => rfl
  | _ :: _ :: _ :: _ :: _ => simp at h; omega

/-! ## Fields of a literal word -/

/-- A field of a literal word is a literal. -/
theorem field_ofNat (n : Nat) {lo len : Nat} (h : lo + len ≤ 32) :
    (BitVec.ofNat 32 n).extractLsb' lo len = BitVec.ofNat len (n / 2 ^ lo) := by
  apply BitVec.eq_of_getLsbD_eq
  intro i hi
  have hlt : lo + i < 32 := by omega
  simp only [BitVec.getLsbD_extractLsb', BitVec.getLsbD_ofNat, Nat.testBit_div_two_pow, hi, hlt, Nat.add_comm i lo,
    decide_true, Bool.true_and]

@[simp] theorem opcodeOf_ofNat (n : Nat) : opcodeOf (BitVec.ofNat 32 n) = BitVec.ofNat 7 n := by
  simpa [opcodeOf] using field_ofNat n (lo := 0) (len := 7) (by decide)

@[simp] theorem rdOf_ofNat (n : Nat) : rdOf (BitVec.ofNat 32 n) = BitVec.ofNat 5 (n / 2 ^ 7) :=
  field_ofNat n (by decide)

@[simp] theorem funct3Of_ofNat (n : Nat) : funct3Of (BitVec.ofNat 32 n) = BitVec.ofNat 3 (n / 2 ^ 12) :=
  field_ofNat n (by decide)

@[simp] theorem rs1Of_ofNat (n : Nat) : rs1Of (BitVec.ofNat 32 n) = BitVec.ofNat 5 (n / 2 ^ 15) :=
  field_ofNat n (by decide)

@[simp] theorem selOf_ofNat (n : Nat) : selOf (BitVec.ofNat 32 n) = decide (n / 2 ^ 30 % 2 = 1) := by
  rw [selOf, BitVec.getLsbD_ofNat, Nat.testBit_eq_decide_div_mod_eq]
  rfl

theorem funct3_cases (f : Funct3) :
    f = 0#3 ∨ f = 1#3 ∨ f = 2#3 ∨ f = 3#3 ∨ f = 4#3 ∨ f = 5#3 ∨ f = 6#3 ∨ f = 7#3 := by decide +revert

/-! ## The first row of a list -/

/-- The mnemonic of the first row of a list that a word belongs to (R86). -/
def firstMnemonic (rows : List OpcodeRow) (w : Word) : Option String :=
  (rows.find? fun r => w &&& r.mask == r.pattern).map OpcodeRow.mnemonic

@[simp] theorem firstMnemonic_nil (w : Word) : firstMnemonic [] w = none := rfl

/-- A list of rows is a chain of tests, one for each row. -/
@[simp] theorem firstMnemonic_cons (name : String) (m p : Word) (rows : List OpcodeRow) (w : Word) :
    firstMnemonic (⟨name, m, p⟩ :: rows) w = if w &&& m = p then some name else firstMnemonic rows w := by
  by_cases h : w &&& m = p <;> simp [firstMnemonic, h]

@[simp] theorem firstMnemonic_append (rows rows' : List OpcodeRow) (w : Word) :
    firstMnemonic (rows ++ rows') w = (firstMnemonic rows w).or (firstMnemonic rows' w) := by
  simp [firstMnemonic, List.find?_append, Option.map_or]

/-! ## The rows of each class: words of another opcode have none of them, and the first one that a word of the class has is
that of its decoding -/

section Rows

variable {w : Word}

@[simp] theorem firstMnemonic_opImmRows_none (h : opcodeOf w ≠ 0x13#7) : firstMnemonic opImmRows w = none := by
  simp [opImmRows, mask_707F, mask_4000707F, h]

theorem firstMnemonic_opImmRows (h : opcodeOf w = 0x13#7) :
    firstMnemonic opImmRows w = some (decodeOpImm w).mnemonic := by
  rcases funct3_cases (funct3Of w) with hf | hf | hf | hf | hf | hf | hf | hf <;> cases hs : selOf w <;>
    simp [opImmRows, mask_707F, mask_4000707F, h, hf, hs, decodeOpImm, Instr.mnemonic]

@[simp] theorem firstMnemonic_opRows_none (h : opcodeOf w ≠ 0x33#7) : firstMnemonic opRows w = none := by
  simp [opRows, mask_707F, mask_4000707F, h]

theorem firstMnemonic_opRows (h : opcodeOf w = 0x33#7) : firstMnemonic opRows w = some (decodeOp w).mnemonic := by
  rcases funct3_cases (funct3Of w) with hf | hf | hf | hf | hf | hf | hf | hf <;> cases hs : selOf w <;>
    simp [opRows, mask_707F, mask_4000707F, h, hf, hs, decodeOp, Instr.mnemonic]

@[simp] theorem firstMnemonic_upperJumpRows_none
    (h : opcodeOf w ≠ 0x37#7 ∧ opcodeOf w ≠ 0x17#7 ∧ opcodeOf w ≠ 0x6F#7 ∧ opcodeOf w ≠ 0x67#7) :
    firstMnemonic upperJumpRows w = none := by
  simp [upperJumpRows, mask_7F, h]

@[simp] theorem firstMnemonic_branchRows_none (h : opcodeOf w ≠ 0x63#7) : firstMnemonic branchRows w = none := by
  simp [branchRows, mask_707F, mask_607F, h]

theorem firstMnemonic_branchRows (h : opcodeOf w = 0x63#7) :
    firstMnemonic branchRows w = some (decodeBranch w).mnemonic := by
  rcases funct3_cases (funct3Of w) with hf | hf | hf | hf | hf | hf | hf | hf <;>
    simp [branchRows, mask_707F, mask_607F, h, hf, decodeBranch, Instr.mnemonic]

@[simp] theorem firstMnemonic_loadStoreRows_none (h : opcodeOf w ≠ 0x03#7 ∧ opcodeOf w ≠ 0x23#7) :
    firstMnemonic loadStoreRows w = none := by
  simp [loadStoreRows, mask_707F, mask_407F, h]

theorem firstMnemonic_loadStoreRows_load (h : opcodeOf w = 0x03#7) :
    firstMnemonic loadStoreRows w = some (decodeLoad w).mnemonic := by
  rcases funct3_cases (funct3Of w) with hf | hf | hf | hf | hf | hf | hf | hf <;>
    simp [loadStoreRows, mask_707F, h, hf, decodeLoad, Instr.mnemonic]

theorem firstMnemonic_loadStoreRows_store (h : opcodeOf w = 0x23#7) :
    firstMnemonic loadStoreRows w = some (decodeStore w).mnemonic := by
  rcases funct3_cases (funct3Of w) with hf | hf | hf | hf | hf | hf | hf | hf <;>
    simp [loadStoreRows, mask_707F, mask_407F, h, hf, decodeStore, Instr.mnemonic]

@[simp] theorem firstMnemonic_systemRows_none (h : opcodeOf w ≠ 0x73#7) : firstMnemonic systemRows w = none := by
  have hw : ∀ u : Word, opcodeOf u = 0x73#7 → w ≠ u := by
    rintro u hu rfl
    exact h hu
  simp [systemRows, mask_707F, mask_7FFF, mask_FF07F, mask_7F, mask_FFFFFFFF, h, hw]

/-- The decoder tests a SYSTEM word in the order of the rows. -/
theorem firstMnemonic_systemRows (h : opcodeOf w = 0x73#7) :
    firstMnemonic systemRows w = some (decodeSystem w).mnemonic := by
  simp only [decodeSystem, apply_ite Instr.mnemonic, apply_ite some]
  simp [systemRows, mask_707F, mask_7FFF, mask_FF07F, mask_7F, mask_FFFFFFFF, h, Instr.mnemonic]

end Rows

/-- The whole table, class by class: only the segment of the word's own opcode has a row for it. -/
theorem firstMnemonic_opcodeRows (w : Word) : firstMnemonic opcodeRows w = some (decodeWord w).mnemonic := by
  simp only [opcodeRows, firstMnemonic_append]
  rcases opcode_cases (opcodeOf w) with h | h | h | h | h | h | h | h | h | h | h | h | h
  · simp [h, decodeWord_opImm, firstMnemonic_opImmRows]
  · simp [h, decodeWord_op, firstMnemonic_opRows]
  · simp [h, decodeWord_lui, upperJumpRows, mask_7F, Instr.mnemonic]
  · simp [h, decodeWord_auipc, upperJumpRows, mask_7F, Instr.mnemonic]
  · simp [h, decodeWord_jal, upperJumpRows, mask_7F, Instr.mnemonic]
  · simp [h, decodeWord_jalr, upperJumpRows, mask_7F, Instr.mnemonic]
  · simp [h, decodeWord_branch, firstMnemonic_branchRows]
  · simp [h, decodeWord_load, firstMnemonic_loadStoreRows_load]
  · simp [h, decodeWord_store, firstMnemonic_loadStoreRows_store]
  · simp [h, decodeWord_system, firstMnemonic_systemRows]
  · simp [h, decodeWord_miscMem, otherRows, mask_7F, Instr.mnemonic]
  · simp [h, decodeWord_amo, otherRows, mask_7F, Instr.mnemonic]
  · rw [decodeWord_default h]
    simp only [classOpcodes, List.mem_cons, List.not_mem_nil, or_false, not_or] at h
    simp [h, otherRows, mask_7F, Instr.mnemonic]

/-! ## The dispatcher and its registry (R73 to R75) -/

namespace Machine

/-- The fixed table has a class for the twelve opcodes and no other (R74). -/
theorem dispatch_eq_default_iff (op : Opcode) : dispatch op = .default ↔ op ∉ classOpcodes := by decide +revert

/-- A registered opcode has the handler registered last. -/
theorem Registry.dispatch_register_same (r : Registry) (op : Opcode) (h : OpClass) :
    (r.register op h).dispatch op = some h := by
  simp [Registry.dispatch, Registry.register]

/-- A registration changes the handler of no other opcode: what it takes out of the list bears its own opcode. -/
theorem Registry.dispatch_register_ne (r : Registry) {op q : Opcode} (hq : q ≠ op) (h : OpClass) :
    (r.register op h).dispatch q = r.dispatch q := by
  have hfind : (r.entries.filter fun e => e.1 ≠ op).find? (fun e => e.1 = q) = r.entries.find? fun e => e.1 = q := by
    rw [List.find?_filter]
    congr 1
    funext e
    by_cases he : e.1 = q <;> simp [he, hq]
  simp only [Registry.dispatch, Registry.register, List.find?_cons, decide_eq_false (Ne.symm hq), hfind]

/-- Registering the same pair again changes nothing. -/
theorem Registry.register_register (r : Registry) (op : Opcode) (h : OpClass) :
    (r.register op h).register op h = r.register op h := by
  simp [Registry.register, List.filter_filter]

/-- An opcode that is not registered has the default, if there is one. -/
theorem Registry.dispatch_unregistered {r : Registry} {op : Opcode} (h : ∀ e ∈ r.entries, e.1 ≠ op) :
    r.dispatch op = r.default := by
  have hfind : r.entries.find? (fun e => e.1 = op) = none := List.find?_eq_none.2 (by simpa using h)
  simp only [Registry.dispatch, hfind]

end Machine

/-! ## The immediates (R64 to R71) -/

/-- A field as a number. -/
theorem toNat_field (w : Word) (lo len : Nat) : (w.extractLsb' lo len).toNat = w.toNat / 2 ^ lo % 2 ^ len := by
  rw [BitVec.extractLsb'_toNat, Nat.shiftRight_eq_div_pow]

/-- Two fields side by side as a number. -/
theorem toNat_append_eq {m n : Nat} (a : BitVec m) (b : BitVec n) : (a ++ b).toNat = a.toNat * 2 ^ n + b.toNat := by
  rw [BitVec.toNat_append, ← Nat.shiftLeft_add_eq_or_of_lt b.isLt, Nat.shiftLeft_eq]

/-- Sign extension keeps the signed value: the field as a number, less twice the weight of its top bit where that is set
(R70). -/
theorem toInt_sext {n : Nat} (v : BitVec n) (hn : n ≤ 32) :
    (sext v).toInt = if 2 * v.toNat < 2 ^ n then (v.toNat : Int) else v.toNat - (2 ^ n : Nat) := by
  rw [sext, BitVec.toInt_signExtend_of_le hn, BitVec.toInt_eq_toNat_cond]

theorem immI_toInt (w : Word) : (immI w).toInt = (w.toNat / 2 ^ 20 : Nat) - 4096 * (w.toNat / 2 ^ 31 : Nat) := by
  have hw := w.isLt
  rw [immI, toInt_sext _ (by decide), toNat_field]
  omega

theorem immS_toInt (w : Word) :
    (immS w).toInt = 32 * (w.toNat / 2 ^ 25 : Nat) + (w.toNat / 2 ^ 7 % 32 : Nat) - 4096 * (w.toNat / 2 ^ 31 : Nat) := by
  have hw := w.isLt
  simp only [immS, toInt_sext _ (show 7 + 5 ≤ 32 by decide), toNat_append_eq, toNat_field]
  omega

theorem immB_toInt (w : Word) :
    (immB w).toInt = 2048 * (w.toNat / 2 ^ 7 % 2 : Nat) + 32 * (w.toNat / 2 ^ 25 % 64 : Nat)
        + 2 * (w.toNat / 2 ^ 8 % 16 : Nat) - 4096 * (w.toNat / 2 ^ 31 : Nat) := by
  have hw := w.isLt
  simp only [immB, toInt_sext _ (show 1 + 1 + 6 + 4 + 1 ≤ 32 by decide), toNat_append_eq, toNat_field, BitVec.toNat_ofNat]
  omega

theorem immJ_toInt (w : Word) :
    (immJ w).toInt = 4096 * (w.toNat / 2 ^ 12 % 256 : Nat) + 2048 * (w.toNat / 2 ^ 20 % 2 : Nat)
        + 2 * (w.toNat / 2 ^ 21 % 1024 : Nat) - 1048576 * (w.toNat / 2 ^ 31 : Nat) := by
  have hw := w.isLt
  simp only [immJ, toInt_sext _ (show 1 + 8 + 1 + 10 + 1 ≤ 32 by decide), toNat_append_eq, toNat_field, BitVec.toNat_ofNat]
  omega

theorem immU_toNat (w : Word) : (immU w).toNat = w.toNat / 2 ^ 12 * 4096 := by
  have hw := w.isLt
  rw [immU, toNat_append_eq, toNat_field, BitVec.toNat_ofNat]
  omega

/-- The sign extender by bits (R70). -/
theorem sext_getLsbD {n : Nat} (v : BitVec n) {i : Nat} (hi : i < 32) :
    (sext v).getLsbD i = if i < n then v.getLsbD i else v.getLsbD (n - 1) := by
  rw [sext, BitVec.getLsbD_signExtend, BitVec.msb_eq_getLsbD_last, decide_eq_true hi, Bool.true_and]

/-- The sign extender in closed form (R70); at 32 bits the shift gives 0. -/
theorem sext_eq_add {n : Nat} (v : BitVec n) (hn : n ≤ 32) :
    sext v = v.setWidth 32 + (if v.getLsbD (n - 1) then -((1 : Word) <<< n) else 0) := by
  apply BitVec.eq_of_toNat_eq
  have hle : 2 ^ n ≤ 2 ^ 32 := Nat.pow_le_pow_right (by decide) hn
  have hv : v.toNat < 2 ^ n := v.isLt
  rw [sext, BitVec.toNat_signExtend, BitVec.msb_eq_getLsbD_last, BitVec.toNat_add, BitVec.toNat_setWidth]
  split
  · have hshift : ((1 : Word) <<< n).toNat = 2 ^ n % 2 ^ 32 := by simp [BitVec.toNat_shiftLeft, Nat.shiftLeft_eq]
    rw [BitVec.toNat_neg, hshift]
    omega
  · simp

/-! ## Every decoded word is well formed -/

theorem immI_fits (w : Word) : fitsSigned 12 (immI w) = true := fitsSigned_sext _ (by decide)

theorem immS_fits (w : Word) : fitsSigned 12 (immS w) = true := fitsSigned_sext _ (by decide)

theorem immB_fits (w : Word) : fitsSigned 13 (immB w) = true := fitsSigned_sext _ (by decide)

theorem immJ_fits (w : Word) : fitsSigned 21 (immJ w) = true := fitsSigned_sext _ (by decide)

theorem isEven_sext_append_zero {n : Nat} (v : BitVec n) : isEven (sext (v ++ 0#1)) = true := by
  rw [isEven, sext_bit_zero _ (Nat.succ_pos n), BitVec.getLsbD_append]
  rfl

theorem immB_even (w : Word) : isEven (immB w) = true := isEven_sext_append_zero _

theorem immJ_even (w : Word) : isEven (immJ w) = true := isEven_sext_append_zero _

theorem immU_upper (w : Word) : isUpper (immU w) = true :=
  decide_eq_true BitVec.extractLsb'_append_eq_right

theorem immShamt_isShamt (w : Word) : isShamt (immShamt w) = true := by
  refine decide_eq_true ?_
  have h := (w.extractLsb' 20 5).isLt
  rw [immShamt, BitVec.toNat_setWidth]
  omega

section ClassesWf

variable (w : Word)

/-! The conditions of a class are pushed outside `Instr.wf`; each branch then asks for its immediate's range. -/

theorem decodeOpImm_wf : (decodeOpImm w).wf = true := by
  simp only [decodeOpImm, apply_ite Instr.wf]
  simp only [Instr.wf, immI_fits, immShamt_isShamt, ite_self]

theorem decodeOp_wf : (decodeOp w).wf = true := by
  simp only [decodeOp, apply_ite Instr.wf]
  simp only [Instr.wf, ite_self]

theorem decodeBranch_wf : (decodeBranch w).wf = true := by
  simp only [decodeBranch, apply_ite Instr.wf]
  simp only [Instr.wf, immB_fits, immB_even, Bool.and_self, ite_self]

theorem decodeLoad_wf : (decodeLoad w).wf = true := by
  simp only [decodeLoad, apply_ite Instr.wf]
  simp only [Instr.wf, immI_fits, ite_self]

theorem decodeStore_wf : (decodeStore w).wf = true := by
  simp only [decodeStore, apply_ite Instr.wf]
  simp only [Instr.wf, immS_fits, ite_self]

/-- The two CSR patterns are tested before CSRRW and CSRRS, which so have rd and rs1 other than 0 (R230). -/
theorem decodeSystem_wf : (decodeSystem w).wf = true := by
  by_cases h1 : funct3Of w = 1#3
  · by_cases hrd : rdOf w = 0#5
    · simp [decodeSystem, h1, hrd, Instr.wf]
    · simp [decodeSystem, h1, hrd, ne_namedSystemWord, Instr.wf]
  by_cases h2 : funct3Of w = 2#3
  · by_cases hrs1 : rs1Of w = 0#5
    · simp [decodeSystem, h2, hrs1, Instr.wf]
    · simp [decodeSystem, h2, hrs1, ne_namedSystemWord, Instr.wf]
  simp only [decodeSystem, h1, h2, false_and, if_false, apply_ite Instr.wf]
  simp only [Instr.wf, ite_self]

end ClassesWf

theorem decodeWord_wf (w : Word) : (decodeWord w).wf = true := by
  rcases opcode_cases (opcodeOf w) with h | h | h | h | h | h | h | h | h | h | h | h | h
  · rw [decodeWord_opImm h, decodeOpImm_wf]
  · rw [decodeWord_op h, decodeOp_wf]
  · rw [decodeWord_lui h, Instr.wf, immU_upper]
  · rw [decodeWord_auipc h, Instr.wf, immU_upper]
  · rw [decodeWord_jal h, Instr.wf, immJ_fits, immJ_even, Bool.and_self]
  · rw [decodeWord_jalr h, Instr.wf, immI_fits]
  · rw [decodeWord_branch h, decodeBranch_wf]
  · rw [decodeWord_load h, decodeLoad_wf]
  · rw [decodeWord_store h, decodeStore_wf]
  · rw [decodeWord_system h, decodeSystem_wf]
  · rw [decodeWord_miscMem h, Instr.wf]
  · rw [decodeWord_amo h, Instr.wf]
  · rw [decodeWord_default h, Instr.wf]

/-! ## What the examined bits decide (R80) -/

namespace Machine

/-- A record with the register, immediate and CSR index fields of another. -/
def Decoded.withOperandsOf (d e : Decoded) : Decoded :=
  { d with rd := e.rd, rs1 := e.rs1, rs2 := e.rs2, imm := e.imm, csrIdx := e.csrIdx }

/-- Normalization reads and changes the destination alone (R106). -/
theorem normalize_withOperandsOf (d e : Decoded) :
    (d.withOperandsOf e).normalize = d.normalize.withOperandsOf (d.withOperandsOf e).normalize := by
  rw [Machine.normalize_eq (d.withOperandsOf e), Machine.normalize_eq d]
  rfl

/-! A class's choice is a function of the bits it examines. -/

theorem opImmAluOp_examined (f : Funct3) (b : Bool) : opImmAluOp f b = opImmAluOp f (decide (f = 5#3) && b) := by
  decide +revert

theorem opAluOp_examined (f : Funct3) (b : Bool) : opAluOp f b = opAluOp f (decide (f = 0#3 ∨ f = 5#3) && b) := by
  decide +revert

theorem systemKind_examined (f : Funct3) (rd rs1 : RegId) :
    systemKind f rd rs1 =
      if (decide (f = 1#3) && decide (rd = 0#5)) = true then .csrWrite
      else if (decide (f = 2#3) && decide (rs1 = 0#5)) = true then .csrRead else .system := by
  simp [systemKind]

/-- On words of one opcode that agree on the examined bits, the handler's records differ in the operand fields alone. -/
theorem handle_of_examined {w v : Word} (hop : opcodeOf w = opcodeOf v)
    (hx : Claims.examined w = Claims.examined v) (m m' : Immediates) :
    handle (dispatch (opcodeOf w)) w m =
      (handle (dispatch (opcodeOf v)) v m').withOperandsOf (handle (dispatch (opcodeOf w)) w m) := by
  unfold Claims.examined at hx
  rw [← hop] at hx ⊢
  cases hc : dispatch (opcodeOf w) <;> simp only [hc, Prod.mk.injEq] at hx <;> obtain ⟨hf, hb, hb'⟩ := hx
  case opImm =>
    have ha : opImmAluOp (funct3Of w) (selOf w) = opImmAluOp (funct3Of v) (selOf v) := by
      rw [opImmAluOp_examined, hb, hf, ← opImmAluOp_examined]
    simp only [handle, Decoded.withOperandsOf, ha]
  case op =>
    have ha : opAluOp (funct3Of w) (selOf w) = opAluOp (funct3Of v) (selOf v) := by
      rw [opAluOp_examined, hb, hf, ← opAluOp_examined]
    simp only [handle, Decoded.withOperandsOf, ha]
  case branch => simp only [handle, Decoded.withOperandsOf, hf]
  case load | store => simp only [handle, Decoded.withOperandsOf, decide_eq_decide.1 hb]
  case system =>
    have hk : systemKind (funct3Of w) (rdOf w) (rs1Of w) = systemKind (funct3Of v) (rdOf v) (rs1Of v) := by
      rw [systemKind_examined, hb, hb', ← systemKind_examined]
    simp only [handle, Decoded.withOperandsOf, hk]
  all_goals rfl

theorem decodeRecord_of_examined {w v : Word} (hop : opcodeOf w = opcodeOf v)
    (hx : Claims.examined w = Claims.examined v) : decodeRecord w = (decodeRecord v).withOperandsOf (decodeRecord w) := by
  unfold decodeRecord
  rw [handle_of_examined hop hx (immediates w) (immediates v)]
  exact normalize_withOperandsOf _ _

end Machine

/-! ## The obligations of 30_encoding.md -/

/-- Settles O1: the decoder reads from each layout the fields and the immediate the encoder put there. -/
theorem decodeOfEncodeIsIdentity : Obligations.DecodeOfEncodeIsIdentity := by
  unfold Obligations.DecodeOfEncodeIsIdentity
  exact decodeWord_encode

/-- Settles O8: the first row of the table is found among those of the word's opcode class, which test what the decoder of
the class tests. -/
theorem firstTableRowIsTheDecodedInstruction : Obligations.FirstTableRowIsTheDecodedInstruction := by
  unfold Obligations.FirstTableRowIsTheDecodedInstruction
  exact firstMnemonic_opcodeRows

/-- Settles O2: each opcode class decodes to instructions whose immediate is the class's own, in its range. -/
theorem decodedInstructionsAreWellFormed : Obligations.DecodedInstructionsAreWellFormed := by
  unfold Obligations.DecodedInstructionsAreWellFormed
  exact decodeWord_wf

/-- Settles O3: each immediate as a sum of its fields; the ranges follow from the fields' own. -/
theorem immediateValues : Obligations.ImmediateValues := by
  unfold Obligations.ImmediateValues
  intro w
  have hw := w.isLt
  rw [immI_toInt, immS_toInt, immB_toInt, immJ_toInt, immU_toNat]
  omega

/-- Settles O4: the sign extender by bits and in arithmetic. -/
theorem signExtenderClosedForm : Obligations.SignExtenderClosedForm := by
  unfold Obligations.SignExtenderClosedForm
  exact fun n v _ hn => ⟨fun i hi => sext_getLsbD v hi, sext_eq_add v hn⟩

/-- Settles O5: a handler's choices are functions of the examined bits, and normalization changes the destination alone. -/
theorem unexaminedBitsChooseNothing : Obligations.UnexaminedBitsChooseNothing := by
  unfold Obligations.UnexaminedBitsChooseNothing
  exact fun w v hop hx => Machine.decodeRecord_of_examined hop hx

/-- Settles O7: the four bytes give back the word, and the word its instruction. -/
theorem bytesOfAnInstructionDecode : Obligations.BytesOfAnInstructionDecode := by
  unfold Obligations.BytesOfAnInstructionDecode
  refine ⟨fun i rest h => ?_, fun bs h => decode_of_length_lt h⟩
  rw [decode_bytesOfWord, decodeWord_encode i h]

/-- Settles O10: the default is the class of the opcodes outside the list of twelve. -/
theorem dispatchIsTotalAndFixed : Obligations.DispatchIsTotalAndFixed := by
  unfold Obligations.DispatchIsTotalAndFixed
  refine ⟨by decide, by rfl, fun w h => ⟨decodeWord_default ((Machine.dispatch_eq_default_iff _).1 h), ?_⟩⟩
  simp [Machine.decodeRecord, h, Machine.handle, Machine.blankRecord]

/-- Settles O11, clause by clause from the laws of the registry. -/
theorem lastRegistrationWins : Obligations.LastRegistrationWins := by
  unfold Obligations.LastRegistrationWins
  exact ⟨fun r op h => r.dispatch_register_same op h, fun r op q h hq => r.dispatch_register_ne hq h,
    fun r op h => r.register_register op h, fun r op hr hd => (Machine.Registry.dispatch_unregistered hr).trans hd⟩

/-- Settles O6, by running the decoder on the seventeen words. -/
theorem workedWordsDecode : Obligations.WorkedWordsDecode := by
  unfold Obligations.WorkedWordsDecode
  decide

end Sys2Proof
end

section
/-! PROOFS. The pipeline (40_pipeline.md): decode by handlers against the decoder through `Instr`, the step as one datapath
with its phases, the ports, and what a completed step leaves of the collaborator. -/

namespace Sys2Proof.Machine

/-! ## Decode by handlers (R105, R106) -/

/-- The destination after normalization, for every record (R106). -/
theorem normalize_rd_eq (d : Decoded) : d.normalize.rd = if d.rd = some 0#5 then none else d.rd := by
  by_cases h : d.rd = some 0#5 <;> simp [Decoded.normalize, h]

/-- No normalized record has destination 0 (R106). -/
theorem normalize_rd_ne_zero (d : Decoded) : d.normalize.rd ≠ some 0#5 := by
  rw [normalize_rd_eq]
  split
  · exact nofun
  · assumption

/-- The shift amount is the low five bits of the I-immediate (R71). -/
theorem immI_shamt (w : Word) : ((immI w).extractLsb' 0 5).setWidth 32 = immShamt w := by
  have h : (immI w).extractLsb' 0 5 = w.extractLsb' 20 5 := by
    apply BitVec.eq_of_getLsbD_eq
    intro i hi
    have h12 : i < 12 := by omega
    have h32 : i < 32 := by omega
    simp [hi, immI, sext_getLsbD _ h32, h12]
  rw [h, immShamt]

section Classes

variable (w : Word)

/-! The record of a class's decoding is the one its handler makes. -/

theorem recordOf_decodeOpImm : recordOf (decodeOpImm w) = (handle .opImm w (immediates w)).normalize := by
  simp only [handle, immediates, immI_shamt, decodeOpImm, opImmAluOp]
  rcases funct3_cases (funct3Of w) with hf | hf | hf | hf | hf | hf | hf | hf <;> cases selOf w <;>
    simp [hf, recordOf, opImmRecord]

theorem recordOf_decodeOp : recordOf (decodeOp w) = (handle .op w (immediates w)).normalize := by
  simp only [handle, decodeOp, opAluOp, opImmAluOp]
  rcases funct3_cases (funct3Of w) with hf | hf | hf | hf | hf | hf | hf | hf <;> cases selOf w <;>
    simp [hf, recordOf, opRecord]

theorem recordOf_decodeBranch : recordOf (decodeBranch w) = (handle .branch w (immediates w)).normalize := by
  simp only [handle, immediates, decodeBranch, branchCond]
  rcases funct3_cases (funct3Of w) with hf | hf | hf | hf | hf | hf | hf | hf <;>
    simp [hf, recordOf, branchRecord]

theorem recordOf_decodeLoad : recordOf (decodeLoad w) = (handle .load w (immediates w)).normalize := by
  simp only [handle, immediates, decodeLoad]
  rcases funct3_cases (funct3Of w) with hf | hf | hf | hf | hf | hf | hf | hf <;>
    simp [hf, recordOf, loadRecord]

theorem recordOf_decodeStore : recordOf (decodeStore w) = (handle .store w (immediates w)).normalize := by
  simp only [handle, immediates, decodeStore]
  rcases funct3_cases (funct3Of w) with hf | hf | hf | hf | hf | hf | hf | hf <;>
    simp [hf, recordOf, storeRecord]

/-- The CSR patterns are tested first; every other word, one of the five that have a name or not, has the record of kind
System on its own fields (R230, R233). -/
theorem recordOf_decodeSystem : recordOf (decodeSystem w) = (handle .system w (immediates w)).normalize := by
  by_cases hw : funct3Of w = 1#3 ∧ rdOf w = 0#5
  · simp [handle, systemKind, decodeSystem, hw, recordOf, systemRecord]
  by_cases hr : funct3Of w = 2#3 ∧ rs1Of w = 0#5
  · simp [handle, systemKind, decodeSystem, hr, recordOf, systemRecord]
  by_cases hn : w = 0x00000073#32 ∨ w = 0x00100073#32 ∨ w = 0x30200073#32 ∨ w = 0x10200073#32 ∨ w = 0x10500073#32
  · rcases hn with rfl | rfl | rfl | rfl | rfl <;> decide
  · simp only [not_or] at hn
    simp only [decodeSystem, handle, systemKind, hw, hr, hn, if_false, apply_ite recordOf]
    simp only [recordOf, ite_self, systemRecord]

end Classes

/-- On every word the two decoders give one record: the class is that of the opcode, and the class's record its handler's. -/
theorem decodeRecord_eq_recordOf (w : Word) : decodeRecord w = recordOf (decodeWord w) := by
  unfold decodeRecord
  rcases opcode_cases (opcodeOf w) with h | h | h | h | h | h | h | h | h | h | h | h | h
  · rw [decodeWord_opImm h, recordOf_decodeOpImm, h]; rfl
  · rw [decodeWord_op h, recordOf_decodeOp, h]; rfl
  · rw [decodeWord_lui h, h]; rfl
  · rw [decodeWord_auipc h, h]; rfl
  · rw [decodeWord_jal h, h]; rfl
  · rw [decodeWord_jalr h, h]; rfl
  · rw [decodeWord_branch h, recordOf_decodeBranch, h]; rfl
  · rw [decodeWord_load h, recordOf_decodeLoad, h]; rfl
  · rw [decodeWord_store h, recordOf_decodeStore, h]; rfl
  · rw [decodeWord_system h, recordOf_decodeSystem, h]; rfl
  · rw [decodeWord_miscMem h, h]; rfl
  · rw [decodeWord_amo h, h]; rfl
  · rw [decodeWord_default h, (dispatch_eq_default_iff _).2 h]; rfl

/-! ## The ALU phase by the operands and the kind (R108 to R110) -/

section AluPhase

variable {d : Decoded} (s : State)

/-- An immediate is the right operand, with or without source 2. -/
theorem aluOut_bind_imm {r : RegId} {v : Word} (hr : d.rs1 = some r) (hv : d.imm = some v) :
    aluOut (d.bind s) = alu d.aluOp (s.getReg r) v := by
  simp only [aluOut, rightOperand, Decoded.bind, readSource, hr, hv]

/-- Source 2 is the right operand where there is no immediate. -/
theorem aluOut_bind_rs2 {r q : RegId} (hr : d.rs1 = some r) (hv : d.imm = none) (hq : d.rs2 = some q) :
    aluOut (d.bind s) = alu d.aluOp (s.getReg r) (s.getReg q) := by
  simp only [aluOut, rightOperand, Decoded.bind, readSource, hr, hv, hq]

/-- The gate is shut without source 1 and without a right operand (D20). -/
theorem aluOut_bind_shut (h : d.rs1 = none ∨ (d.rs2 = none ∧ d.imm = none)) : aluOut (d.bind s) = 0 := by
  rcases h with hr | ⟨hq, hv⟩
  · simp only [aluOut, Decoded.bind, hr]
  · cases hr : d.rs1 <;> simp only [aluOut, rightOperand, Decoded.bind, hr, hq, hv]

/-- The write-back value of a record whose kind is known; for a literal kind the selection computes. -/
theorem executed_result_of_kind {k : Kind} (hk : d.kind = k) :
    (executed d s).result = wbSelect { d.bind s with kind := k } (aluOut (d.bind s)) s.pc := by
  subst hk; rfl

end AluPhase

/-! ## The phases of an executed record, where the fields a phase reads are present -/

/-- The written-back value is the word at the data address for kind Load, the result for every other (R112, R113). -/
theorem wbData_executed (d : Decoded) (s : State) (m : Memory) :
    wbData (executed d s) m =
      if d.kind = .load then m.readWord ((executed d s).addr.getD 0) else (executed d s).result := by
  by_cases h : d.kind = .load
  · simp [wbData, executed_addr, h, accessesMemory]
  · rw [if_neg h, wbData]
    split
    · rename_i hk _; exact absurd hk h
    · rfl

/-- Kind Store writes the value of source 2 at the data address (R114). -/
theorem storePhase_executed (d : Decoded) (s : State) (m : Memory) :
    storePhase (executed d s) m =
      if d.kind = .store then m.writeWord ((executed d s).addr.getD 0) (readSource s d.rs2) else m := by
  by_cases h : d.kind = .store
  · simp [storePhase, executed_addr, executed_result, wbSelect, Decoded.bind, h, accessesMemory]
  · rw [storePhase_other (d := executed d s) h, if_neg h]

/-- The collaborator after the CSR read of a record whose CSR kinds have an index (R107). -/
theorem readCsr_snd {d : Decoded} (h : readsCsr d.kind = true → d.csrIdx.isSome = true) (f : CsrFile) :
    (readCsr d f).2 = if readsCsr d.kind = true then (f.read (d.csrIdx.getD 0)).2 else f := by
  by_cases hk : readsCsr d.kind = true
  · obtain ⟨c, hc⟩ := Option.isSome_iff_exists.1 (h hk)
    simp [readCsr, hk, hc]
  · rw [readCsr_other (Bool.of_not_eq_true hk), if_neg hk]

/-- The collaborator after the CSR read and the CSR write, under the two enables (R107, R115). -/
theorem csrWritePhase_readCsr {d : Decoded} (h : readsCsr d.kind = true → d.csrIdx.isSome = true) (s : State) :
    csrWritePhase (executed d s) (readCsr (executed d s) s.csr).2 =
      (let f := if readsCsr d.kind = true then (s.csr.read (d.csrIdx.getD 0)).2 else s.csr
       if decide (d.kind = .csrWrite) = true then f.write (d.csrIdx.getD 0) (readSource s d.rs1) else f) := by
  rw [readCsr_snd (d := executed d s) h]
  by_cases hk : d.kind = .csrWrite
  · obtain ⟨c, hc⟩ := Option.isSome_iff_exists.1 (h (by rw [hk]; rfl))
    simp [csrWritePhase, executed_result, wbSelect, Decoded.bind, hk, hc]
  · rw [csrWritePhase_other (d := executed d s) hk, decide_eq_false hk]
    rfl

/-- A decoded record that reads a CSR has a CSR index (R230). -/
theorem csrIdx_isSome_of_readsCsr {w : Word} (h : readsCsr (decodeRecord w).kind = true) :
    (decodeRecord w).csrIdx.isSome = true := by
  rw [decodeRecord_eq_recordOf] at h ⊢
  obtain ⟨r, c, hi | hi⟩ := readsCsr_recordOf h <;> simp [hi, recordOf, systemRecord]

/-- The port `gpr_we` with its `rd` is the enable of the register write, no decoded destination being 0 (R106, R112). -/
theorem gprWe_iff {d : Decoded} (h : d.rd ≠ some 0#5) (q : RegId) :
    (writesRegister d.kind = true ∧ d.rd = some q ∧ q ≠ 0#5) ↔
      (d.rd.isSome && writesRegister d.kind) = true ∧ d.rd = some q := by
  by_cases hq : d.rd = some q
  · have h0 : q ≠ 0#5 := fun e => h (e ▸ hq)
    simp [hq, h0]
  · simp [hq]

/-! ## The step as one datapath -/

/-- Where the fetch succeeds, the step runs the record the handlers make of the word (R105, R117). -/
theorem step_eq_runRecord {s : State} {w : Word} (h : fetchWord s = .ok w) : step s = runRecord (decodeRecord w) s := by
  rw [step_of_fetchWord_ok h, exec_eq_runRecord, decodeRecord_eq_recordOf]

/-- A completed step is the end of a step of the executed record of the word at pc. -/
theorem step_eq_next_commit {s t : State} (h : step s = .next t) :
    t = commit (executed (decodeRecord (s.mem.readWord s.pc)) s) s := by
  obtain ⟨-, -, hexec⟩ := step_eq_next h
  rw [decodeRecord_eq_recordOf]
  exact exec_eq_next_commit hexec

/-! ## The parameter `refuseUnsupported` (R120) -/

/-- The no-op kinds, and a branch whose condition is Never (R120). -/
theorem isNoOp_iff (d : Decoded) :
    isNoOp d = true ↔ d.kind = .unsupported ∨ d.kind = .system ∨ (d.kind = .branch ∧ d.brCond = .never) := by
  cases hk : d.kind <;> simp [isNoOp, hk]

/-- The end of a step carries the parameters along and reads none of them. -/
theorem commit_params_change (d : Decoded) (s : State) (p : Params) :
    commit d { s with params := p } = { commit d s with params := p } := by
  simp only [commit, writeBack, State.setReg]
  split
  · split <;> rfl
  · rfl

/-- A record that is no no-op runs alike with and without `refuseUnsupported`. -/
theorem runRecord_refuseUnsupported_change {d : Decoded} (h : isNoOp d = false) (s : State) (b : Bool) :
    runRecord d { s with params := { s.params with refuseUnsupported := b } } =
      match recordFault (executed d s) s.params with
      | some f => .fault f
      | none => .next { commit (executed d s) s with params := { s.params with refuseUnsupported := b } } := by
  rw [← commit_params_change, runRecord, h, Bool.and_false]
  rfl

/-! ## What the computing instructions leave unchanged -/

/-- Running the record writes `rd` at most, advances or jumps, and ends the step: nothing else is touched. -/
def WritesOnly (rd : RegId) (d : Decoded) (s : State) : Prop :=
  ∃ v n, runRecord d s = .next ((s.setReg rd v).retire n)

/-- Everything outside the destination and the pc after such a record (R25, R27, R31). -/
theorem WritesOnly.frame {rd : RegId} {d : Decoded} {s t : State} (hd : WritesOnly rd d s)
    (h : runRecord d s = .next t) :
    (∀ q, q ≠ rd → t.getReg q = s.getReg q) ∧ t.getReg 0#5 = 0 ∧ t.mem = s.mem ∧ t.params = s.params ∧
      t.csr = s.csr.instructionExecuted.getMessage.2 := by
  obtain ⟨v, n, hv⟩ := hd
  cases h.symm.trans hv
  exact ⟨fun q hq => s.getReg_setReg_ne hq v, rfl, by simp, by simp, by simp⟩

/-- The 23 instructions of OP-IMM, OP, LUI, AUIPC, JAL and JALR write `rd` only. -/
theorem writesOnly_computations (rd rs1 rs2 : RegId) (imm : Word) (s : State) :
    ∀ i ∈ [Instr.addi rd rs1 imm, .slti rd rs1 imm, .sltiu rd rs1 imm, .xori rd rs1 imm, .ori rd rs1 imm,
        .andi rd rs1 imm, .slli rd rs1 imm, .srai rd rs1 imm, .srli rd rs1 imm, .sub rd rs1 rs2, .add rd rs1 rs2,
        .sll rd rs1 rs2, .slt rd rs1 rs2, .sltu rd rs1 rs2, .xor rd rs1 rs2, .sra rd rs1 rs2, .srl rd rs1 rs2,
        .or rd rs1 rs2, .and rd rs1 rs2, .lui rd imm, .auipc rd imm, .jal rd imm, .jalr rd rs1 imm],
      WritesOnly rd (recordOf i) s := by
  have opImm (op : AluOp) : WritesOnly rd (opImmRecord op rd rs1 imm) s := ⟨_, _, runRecord_opImm op rd rs1 imm s⟩
  have op (op : AluOp) : WritesOnly rd (opRecord op rd rs1 rs2) s := ⟨_, _, runRecord_op op rd rs1 rs2 s⟩
  have lui : WritesOnly rd (luiRecord rd imm) s := ⟨_, _, runRecord_lui rd imm s⟩
  have auipc : WritesOnly rd (auipcRecord rd imm) s := ⟨_, _, runRecord_auipc rd imm s⟩
  have jal : WritesOnly rd (jalRecord rd imm) s := ⟨_, _, runRecord_jal rd imm s⟩
  have jalr : WritesOnly rd (jalrRecord rd rs1 imm) s := ⟨_, _, runRecord_jalr rd rs1 imm s⟩
  simp [recordOf, opImm, op, lui, auipc, jal, jalr]

/-! ## The plain collaborator (D15) -/

/-- A read of the plain collaborator leaves it as it was. -/
theorem readCsr_plain (d : Decoded) (cells : List (Nat × Word)) (n : Nat) :
    (readCsr d (.plain cells n)).2 = .plain cells n := by
  unfold readCsr; split <;> rfl

/-- A CSR write leaves the plain collaborator plain, its count as it was. -/
theorem csrWritePhase_plain (d : Decoded) (cells : List (Nat × Word)) (n : Nat) :
    ∃ cells', csrWritePhase d (.plain cells n) = .plain cells' n := by
  unfold csrWritePhase
  split
  · exact ⟨_, rfl⟩
  · exact ⟨_, rfl⟩

/-- CSRRW with `rd = x0` is the only instruction of kind CsrWrite (R231). -/
theorem recordOf_csrWrite {i : Instr} (h : (recordOf i).kind = .csrWrite) : ∃ rs1 c, i = .csrrwRd0 rs1 c := by
  obtain ⟨r, c, rfl | rfl⟩ := readsCsr_recordOf (i := i) (by rw [h]; rfl)
  · exact ⟨r, c, rfl⟩
  · simp [recordOf, systemRecord] at h

/-! ## The obligations of 40_pipeline.md -/

/-- Settles O9: each opcode class's handler makes the record of what the class decodes to. -/
theorem handlersAgreeWithTheDecoder : Obligations.HandlersAgreeWithTheDecoder := by
  unfold Obligations.HandlersAgreeWithTheDecoder
  exact decodeRecord_eq_recordOf

/-- Settles O43: a fetch that faults is the step's fault, and a fetched word's record is the handlers'. -/
theorem stepIsTheHandlerPipeline : Obligations.StepIsTheHandlerPipeline := by
  unfold Obligations.StepIsTheHandlerPipeline
  intro s
  cases h : fetchWord s with
  | error f => exact step_of_fetchWord_error h
  | ok w => exact step_eq_runRecord h

/-- Settles O54: each port is the field or the enable of the executed record that the end of the step uses. -/
theorem portsDriveTheStep : Obligations.PortsDriveTheStep := by
  unfold Obligations.PortsDriveTheStep
  intro s t h
  rw [step_eq_next_commit h]
  generalize hd : decodeRecord (s.mem.readWord s.pc) = d
  simp only [block_eq_executed hd]
  have hcsr := csrWritePhase_readCsr (hd ▸ csrIdx_isSome_of_readsCsr) s
  have hrd : d.rd ≠ some 0#5 := hd ▸ normalize_rd_ne_zero _
  refine ⟨trivial, rfl, fun q => ?_, ?_, ?_, ?_⟩
  · rw [commit_getReg, writeBack_getReg, wbData_executed]
    simp only [executed_kind, executed_rd, gprWe_iff hrd]
  · rw [commit_mem, storePhase_executed]
    simp only [decide_eq_true_eq]
  · rw [commit_csr, hcsr]
  · rw [commit_message, hcsr]

/-- Settles O12: normalization clears a destination of 0 and changes no other field. -/
theorem destinationZeroIsNormalized : Obligations.DestinationZeroIsNormalized := by
  unfold Obligations.DestinationZeroIsNormalized
  exact fun w => ⟨normalize_rd_ne_zero _, normalize_rd_eq _, normalize_eq _⟩

/-- Settles O34: a no-op record is refused, and every other reads the parameter nowhere and carries it along. -/
theorem strictModeRefusesNoOps : Obligations.StrictModeRefusesNoOps := by
  unfold Obligations.StrictModeRefusesNoOps
  intro i s
  rw [← isNoOp_iff]
  refine ⟨fun hn hp => ?_, fun hn => ?_⟩
  · rw [exec_eq_runRecord]
    exact runRecord_eq_refused.2 ⟨by rw [hp, hn]; rfl, rfl⟩
  · simp only [exec_eq_runRecord, runRecord_refuseUnsupported_change (Bool.of_not_eq_true hn)]
    cases recordFault (executed (recordOf i) s) s.params with
    | some e => exact ⟨nofun, fun _ h => h⟩
    | none =>
      refine ⟨fun t h => ?_, nofun⟩
      cases h
      rfl

/-- Settles O35: each of the 23 writes its destination and ends the step. -/
theorem computationFrame : Obligations.ComputationFrame := by
  unfold Obligations.ComputationFrame
  intro rd rs1 rs2 imm s t i hi h
  rw [exec_eq_runRecord] at h
  obtain ⟨hreg, hzero, hmem, hparams, hcsr⟩ := (writesOnly_computations rd rs1 rs2 imm s i hi).frame h
  exact ⟨hreg, hzero, fun a => by rw [hmem], hparams, hcsr⟩

/-- Settles O52: the CSR accesses leave the count alone, the notification adds one, and there is no message. -/
theorem oneNotificationPerCompletedStep : Obligations.OneNotificationPerCompletedStep := by
  unfold Obligations.OneNotificationPerCompletedStep
  intro s t cells n hs h
  obtain ⟨-, -, hexec⟩ := step_eq_next h
  rw [exec_eq_next_commit hexec, commit_csr, commit_message, hs, readCsr_plain]
  obtain ⟨cells', hc⟩ := csrWritePhase_plain (executed (recordOf (decodeWord (s.mem.readWord s.pc))) s) cells n
  refine ⟨⟨cells', by rw [hc]; rfl⟩, by rw [hc]; rfl, fun hw => ?_⟩
  have hk : (recordOf (decodeWord (s.mem.readWord s.pc))).kind ≠ .csrWrite := by
    intro hk
    obtain ⟨rs1, c, hi⟩ := recordOf_csrWrite hk
    exact hw rs1 c hi
  rw [csrWritePhase_other (d := executed _ s) hk]
  rfl

/-- Settles O16: the gate of the ALU by the operands that are present, and the two selections by the kind. -/
theorem executePhaseResults : Obligations.ExecutePhaseResults := by
  unfold Obligations.ExecutePhaseResults
  refine ⟨fun _ _ => rfl, fun d s => ⟨fun r v => aluOut_bind_imm s, fun r q => aluOut_bind_rs2 s, aluOut_bind_shut s,
    fun hk => ?_, fun hl hs => ?_, executed_result_of_kind s, executed_result_of_kind s, executed_result_of_kind s,
    fun hk => ?_, fun v hk hv => ?_, fun hk => ?_⟩⟩
  · rcases hk with hk | hk <;> rw [executed_addr, hk] <;> rfl
  · have ha : accessesMemory d.kind = false := by
      cases hk : d.kind <;> simp_all [accessesMemory]
    rw [executed_addr, ha]
    rfl
  · rcases hk with hk | hk <;> exact executed_result_of_kind s hk
  · rw [executed_result_of_kind s hk]
    simp only [wbSelect, immValue, Decoded.bind, hv, Option.getD_some]
  · simp only [List.mem_cons, List.not_mem_nil, or_false] at hk
    rcases hk with hk | hk | hk | hk | hk <;> exact executed_result_of_kind s hk

/-- Settles O42: the four bytes at pc are the fetched word's. -/
theorem stepRunsTheDecodedInstruction : Obligations.StepRunsTheDecodedInstruction := by
  unfold Obligations.StepRunsTheDecodedInstruction
  intro s i ha hm hd
  rw [step_of_fetchWord_ok (fetchWord_eq_ok ha hm)]
  cases hd
  rfl

end Sys2Proof.Machine
end

section
/-! PROOFS. The ALU and its instructions (41_alu.md): the value of each operation, the rows of OP-IMM, OP, LUI and AUIPC, and
the state after each of their instructions. -/

namespace Sys2Proof.Machine

/-! ## The operations, one equation each (R130 to R139) -/

/-- The shift amount in arithmetic. -/
theorem shiftAmount_eq (b : Word) : shiftAmount b = b.toNat % 32 := by simp [shiftAmount]

@[simp] theorem alu_add (a b : Word) : alu .add a b = a + b := rfl

@[simp] theorem alu_sub (a b : Word) : alu .sub a b = a - b := rfl

@[simp] theorem alu_and (a b : Word) : alu .and a b = a &&& b := rfl

@[simp] theorem alu_or (a b : Word) : alu .or a b = a ||| b := rfl

@[simp] theorem alu_xor (a b : Word) : alu .xor a b = a ^^^ b := rfl

@[simp] theorem alu_slt (a b : Word) : alu .slt a b = if a.toInt < b.toInt then 1 else 0 := by simp [alu, wordOfBool]

@[simp] theorem alu_sltu (a b : Word) : alu .sltu a b = if a.toNat < b.toNat then 1 else 0 := by simp [alu, wordOfBool]

@[simp] theorem alu_sll (a b : Word) : alu .sll a b = a <<< (b.toNat % 32) := by rw [alu, shiftAmount_eq]

@[simp] theorem alu_srl (a b : Word) : alu .srl a b = a >>> (b.toNat % 32) := by rw [alu, shiftAmount_eq]

@[simp] theorem alu_sra (a b : Word) : alu .sra a b = a.sshiftRight (b.toNat % 32) := by rw [alu, shiftAmount_eq]

/-- An arithmetic right shift divides the signed value, rounding toward minus infinity (R139). -/
theorem toInt_sshiftRight_eq_div (a : Word) (k : Nat) : (a.sshiftRight k).toInt = a.toInt / 2 ^ k := by
  rw [BitVec.toInt_sshiftRight, Int.shiftRight_eq_div_pow, Nat.cast_pow, Nat.cast_ofNat]

/-! ## The immediates of the shifts and of LUI and AUIPC in arithmetic (R68, R71) -/

theorem immShamt_toNat (w : Word) : (immShamt w).toNat = w.toNat / 2 ^ 20 % 32 := by
  rw [immShamt, BitVec.toNat_setWidth, toNat_field]
  omega

/-- The low five bits of the I-immediate are the shift amount (R148). -/
theorem immI_toNat_mod (w : Word) : (immI w).toNat % 32 = w.toNat / 2 ^ 20 % 32 := by
  rw [← immShamt_toNat, ← immI_shamt, BitVec.toNat_setWidth, toNat_field]
  omega

/-- Bit 31 of the U-immediate is the top bit of its 20-bit field (R162). -/
theorem immU_bit31 (w : Word) : (immU w).getLsbD 31 = true ↔ 0x80000 ≤ w.toNat / 2 ^ 12 := by
  have hw := w.isLt
  rw [BitVec.getLsbD, immU_toNat, Nat.testBit_eq_decide_div_mod_eq, decide_eq_true_eq]
  omega

/-! ## The rows of OP-IMM and OP (R76) -/

section Rows

variable {w p : Word}

/-- A word of an OP-IMM row that fixes opcode and funct3 is decoded by the row's funct3. -/
theorem decodeWord_opImmRow (hp : p &&& 0x0000707F#32 = p) (ho : opcodeOf p = 0x13#7) (h : w &&& 0x0000707F#32 = p) :
    decodeWord w = decodeOpImm w ∧ funct3Of w = funct3Of p := by
  obtain ⟨hop, hf⟩ := (mask_707F w p hp).1 h
  exact ⟨decodeWord_opImm (hop.trans ho), hf⟩

/-- A word of an OP-IMM row that fixes the select bit too. -/
theorem decodeWord_opImmSelRow (hp : p &&& 0x4000707F#32 = p) (ho : opcodeOf p = 0x13#7) (h : w &&& 0x4000707F#32 = p) :
    decodeWord w = decodeOpImm w ∧ funct3Of w = funct3Of p ∧ selOf w = selOf p := by
  obtain ⟨hop, hf⟩ := (mask_4000707F w p hp).1 h
  exact ⟨decodeWord_opImm (hop.trans ho), hf⟩

/-- A word of an OP row that fixes opcode and funct3 is decoded by the row's funct3. -/
theorem decodeWord_opRow (hp : p &&& 0x0000707F#32 = p) (ho : opcodeOf p = 0x33#7) (h : w &&& 0x0000707F#32 = p) :
    decodeWord w = decodeOp w ∧ funct3Of w = funct3Of p := by
  obtain ⟨hop, hf⟩ := (mask_707F w p hp).1 h
  exact ⟨decodeWord_op (hop.trans ho), hf⟩

/-- A word of an OP row that fixes the select bit too. -/
theorem decodeWord_opSelRow (hp : p &&& 0x4000707F#32 = p) (ho : opcodeOf p = 0x33#7) (h : w &&& 0x4000707F#32 = p) :
    decodeWord w = decodeOp w ∧ funct3Of w = funct3Of p ∧ selOf w = selOf p := by
  obtain ⟨hop, hf⟩ := (mask_4000707F w p hp).1 h
  exact ⟨decodeWord_op (hop.trans ho), hf⟩

end Rows

/-! ## The instructions by their records -/

section Exec

variable {i : Instr} {op : AluOp} {rd rs1 rs2 : RegId} {imm v : Word} {s : State}

/-- An OP-IMM instruction completes with the value its operation gives in `rd` (R141). -/
theorem exec_opImm (hi : recordOf i = opImmRecord op rd rs1 imm) (hv : alu op (s.getReg rs1) imm = v) :
    exec i s = .next ((s.setReg rd v).retire (s.pc + 4)) := by
  rw [exec_eq_runRecord, hi, runRecord_opImm, hv]

/-- An OP instruction completes with the value its operation gives in `rd` (R151). -/
theorem exec_op (hi : recordOf i = opRecord op rd rs1 rs2) (hv : alu op (s.getReg rs1) (s.getReg rs2) = v) :
    exec i s = .next ((s.setReg rd v).retire (s.pc + 4)) := by
  rw [exec_eq_runRecord, hi, runRecord_op, hv]

end Exec

/-! ## The obligations of 41_alu.md -/

/-- Settles O14: the amount is the right operand modulo 32; a shift left multiplies, a shift right divides, and without a
sign bit the two right shifts are one. -/
theorem aluShifts : Obligations.AluShifts := by
  unfold Obligations.AluShifts
  refine ⟨fun a b => ⟨?_, ?_, ?_, fun h => ?_⟩, by decide, by decide, by decide⟩
  · rw [alu_sll, BitVec.toNat_shiftLeft, Nat.shiftLeft_eq]
  · rw [alu_srl, BitVec.toNat_ushiftRight, Nat.shiftRight_eq_div_pow]
  · rw [alu_sra, toInt_sshiftRight_eq_div]
  · rw [alu_sra, alu_srl, BitVec.sshiftRight_eq_of_msb_false (a.msb_eq_getLsbD_last.trans h)]

/-- Settles O13: sum and difference are those of the integers reduced, the logic is bit by bit, and a comparison is 1 or 0. -/
theorem aluArithmeticLogicAndComparison : Obligations.AluArithmeticLogicAndComparison := by
  unfold Obligations.AluArithmeticLogicAndComparison
  refine ⟨fun a b => ⟨?_, ?_, fun k => ⟨?_, ?_, ?_⟩, ?_, ?_⟩, by decide, by decide⟩
  · rw [alu_add, BitVec.toNat_add]
  · have ha := a.isLt
    have hb := b.isLt
    rw [alu_sub, BitVec.toNat_sub]
    omega
  · rw [alu_and, BitVec.getLsbD_and]
  · rw [alu_or, BitVec.getLsbD_or]
  · rw [alu_xor, BitVec.getLsbD_xor]
  · rw [alu_slt, apply_ite BitVec.toNat]
    rfl
  · rw [alu_sltu, apply_ite BitVec.toNat]
    rfl

/-- Settles O17: a row fixes opcode and funct3, and each instruction is the OP-IMM record of its operation. -/
theorem opImmArithmeticResults : Obligations.OpImmArithmeticResults := by
  unfold Obligations.OpImmArithmeticResults
  refine ⟨fun w h => ?_, fun rd rs1 imm s => exec_opImm rfl (alu_add _ _),
    fun w h => ?_, fun rd rs1 imm s => exec_opImm rfl (alu_slt _ _),
    fun w h => ?_, fun rd rs1 imm s => exec_opImm rfl (alu_sltu _ _),
    fun w h => ?_, fun rd rs1 imm s => exec_opImm rfl (alu_xor _ _),
    fun w h => ?_, fun rd rs1 imm s => exec_opImm rfl (alu_or _ _),
    fun w h => ?_, fun rd rs1 imm s => exec_opImm rfl (alu_and _ _)⟩
  all_goals simp [decodeWord_opImmRow (by decide) (by decide) h, decodeOpImm]

/-- Settles O18: the rows of SRLI and SRAI also fix the select bit, which tells them apart. -/
theorem opImmShiftResults : Obligations.OpImmShiftResults := by
  unfold Obligations.OpImmShiftResults
  refine ⟨fun w h => ?slli, fun w h => ?srli, fun w h => ?srai, fun w => ⟨immI_toNat_mod w, immShamt_toNat w⟩,
    fun rd rs1 imm s => exec_opImm rfl (alu_sll _ _), fun rd rs1 imm s => exec_opImm rfl (alu_srl _ _),
    fun rd rs1 imm s => exec_opImm rfl (alu_sra _ _)⟩
  case slli => simp [decodeWord_opImmRow (by decide) (by decide) h, decodeOpImm]
  case srli | srai => simp [decodeWord_opImmSelRow (by decide) (by decide) h, decodeOpImm]

/-- Settles O19: the rows of ADD, SUB, SRL and SRA also fix the select bit; both operands are read from the old state. -/
theorem opArithmeticAndShiftResults : Obligations.OpArithmeticAndShiftResults := by
  unfold Obligations.OpArithmeticAndShiftResults
  refine ⟨fun w h => ?add, fun rd rs1 rs2 s => exec_op rfl (alu_add _ _),
    fun w h => ?sub, fun rd rs1 rs2 s => exec_op rfl (alu_sub _ _),
    fun w h => ?slt, fun rd rs1 rs2 s => exec_op rfl (alu_slt _ _),
    fun w h => ?sltu, fun rd rs1 rs2 s => exec_op rfl (alu_sltu _ _),
    fun w h => ?sll, fun rd rs1 rs2 s => exec_op rfl (alu_sll _ _),
    fun w h => ?srl, fun rd rs1 rs2 s => exec_op rfl (alu_srl _ _),
    fun w h => ?sra, fun rd rs1 rs2 s => exec_op rfl (alu_sra _ _)⟩
  case slt | sltu | sll => simp [decodeWord_opRow (by decide) (by decide) h, decodeOp]
  case add | sub | srl | sra => simp [decodeWord_opSelRow (by decide) (by decide) h, decodeOp]

/-- Settles O20: a row fixes opcode and funct3, and each instruction is the OP record of its operation. -/
theorem opBitwiseResults : Obligations.OpBitwiseResults := by
  unfold Obligations.OpBitwiseResults
  refine ⟨fun w h => ?_, fun rd rs1 rs2 s => exec_op rfl (alu_xor _ _),
    fun w h => ?_, fun rd rs1 rs2 s => exec_op rfl (alu_or _ _),
    fun w h => ?_, fun rd rs1 rs2 s => exec_op rfl (alu_and _ _)⟩
  all_goals simp [decodeWord_opRow (by decide) (by decide) h, decodeOp]

/-- Settles O21: LUI adds its immediate to the 0 of `x0`; AUIPC has no source, so the ALU's gate is shut and the immediate is
added to pc. -/
theorem upperImmediateResults : Obligations.UpperImmediateResults := by
  unfold Obligations.UpperImmediateResults
  refine ⟨fun w h => decodeWord_lui ((mask_7F w _ (by decide)).1 h), fun rd imm => ?_, fun rd imm s => ?_,
    fun w h => decodeWord_auipc ((mask_7F w _ (by decide)).1 h), fun rd imm s => ?_, fun rd imm s => ?_,
    fun w => ⟨?_, immU_bit31 w⟩⟩
  · refine ⟨?_, ?_, ?_, ?_, normalize_rd rfl⟩ <;> simp [recordOf, luiRecord]
  · rw [exec_eq_runRecord, recordOf, runRecord_lui, alu_add, zero_add]
  · have hrs1 : (recordOf (.auipc rd imm)).rs1 = none := by simp [recordOf, auipcRecord, blankRecord]
    refine ⟨?_, normalize_rd rfl, ?_, hrs1, ?_, aluOut_bind_shut s (.inl hrs1)⟩ <;>
      simp [recordOf, auipcRecord, blankRecord]
  · rw [exec_eq_runRecord, recordOf, runRecord_auipc]
  · rw [immU_toNat, Nat.mul_mod_left]

end Sys2Proof.Machine
end

section
/-! PROOFS. Control transfer (42_control.md): the branch conditions, JAL, JALR and the branches, the four sources of the next
pc, and what the instructions with no destination register leave unchanged. -/

namespace Sys2Proof.Machine

/-! ## The conditions, one equivalence each (R180) -/

section Conditions

variable (a b : Word)

theorem evalCond_eq_iff : evalCond .eq a b = true ↔ a = b := decide_eq_true_iff

theorem evalCond_ne_iff : evalCond .ne a b = true ↔ a ≠ b := decide_eq_true_iff

theorem evalCond_lt_iff : evalCond .lt a b = true ↔ a.toInt < b.toInt := decide_eq_true_iff

theorem evalCond_ge_iff : evalCond .ge a b = true ↔ b.toInt ≤ a.toInt := decide_eq_true_iff

theorem evalCond_ltu_iff : evalCond .ltu a b = true ↔ a.toNat < b.toNat := decide_eq_true_iff

theorem evalCond_geu_iff : evalCond .geu a b = true ↔ b.toNat ≤ a.toNat := decide_eq_true_iff

end Conditions

/-! ## The rows of BRANCH (R77) -/

/-- A word of a branch row that fixes opcode and funct3 is decoded by the row's funct3. -/
theorem decodeWord_branchRow {w p : Word} (hp : p &&& 0x0000707F#32 = p) (ho : opcodeOf p = 0x63#7)
    (h : w &&& 0x0000707F#32 = p) : decodeWord w = decodeBranch w ∧ funct3Of w = funct3Of p := by
  obtain ⟨hop, hf⟩ := (mask_707F w p hp).1 h
  exact ⟨decodeWord_branch (hop.trans ho), hf⟩

/-- The two function codes with high bits 01 name no condition (R191). -/
theorem funct3_eq_two_or_three {f : Funct3} (h : f.extractLsb' 1 2 = 1#2) : f = 2#3 ∨ f = 3#3 := by
  decide +revert

/-! ## The instructions by their records -/

/-- JAL completes for every target (R182). -/
theorem exec_jal (rd : RegId) (imm : Word) (s : State) :
    exec (.jal rd imm) s = .next ((s.setReg rd (s.pc + 4)).retire (s.pc + imm)) := by
  rw [exec_eq_runRecord, recordOf, runRecord_jal]

/-- JALR completes for every target, whose base is the old value of `rs1` (R183). -/
theorem exec_jalr (rd rs1 : RegId) (imm : Word) (s : State) :
    exec (.jalr rd rs1 imm) s = .next ((s.setReg rd (s.pc + 4)).retire (s.getReg rs1 + imm)) := by
  rw [exec_eq_runRecord, recordOf, runRecord_jalr]

/-- A branch with a condition other than Never completes, and jumps where what its condition says holds (R184). -/
theorem exec_branch {i : Instr} {c : BrCond} {rs1 rs2 : RegId} {imm : Word} {s : State} {P : Prop} [Decidable P]
    (hi : recordOf i = branchRecord c rs1 rs2 imm) (hc : c ≠ .never)
    (hP : evalCond c (s.getReg rs1) (s.getReg rs2) = true ↔ P) :
    exec i s = .next (s.retire (if P then s.pc + imm else s.pc + 4)) := by
  rw [exec_eq_runRecord, hi, runRecord_branch hc]
  simp only [hP]

/-! ## The next pc (R181) -/

/-- The PC multiplexer on a bound record, by the kind. -/
theorem pcMux_bind (d : Decoded) (s : State) :
    pcMux (d.bind s) s.pc =
      if d.kind = .branch ∨ d.kind = .jump then
        (if evalCond d.brCond (readSource s d.rs1) (readSource s d.rs2) = true then s.pc + d.imm.getD 0 else s.pc + 4)
      else if d.kind = .jumpRegister then
        (if evalCond d.brCond (readSource s d.rs1) (readSource s d.rs2) = true then
          readSource s d.rs1 + d.imm.getD 0 else s.pc + 4)
      else s.pc + 4 := by
  cases hk : d.kind <;> simp [pcMux, immValue, Decoded.bind, hk]

/-- A completed instruction leaves the pc its record's multiplexer selects. -/
theorem exec_next_pc {i : Instr} {s t : State} (h : exec i s = .next t) :
    t.pc = pcMux ((recordOf i).bind s) s.pc := by
  rw [exec_eq_next_commit h, commit_pc, executed_nextPc]

/-- A completed branch or JAL is at its target or at the following instruction. -/
theorem exec_next_pc_of_pcRelative {i : Instr} {imm : Word} {s t : State}
    (hk : (recordOf i).kind = .branch ∨ (recordOf i).kind = .jump) (hi : (recordOf i).imm = some imm)
    (h : exec i s = .next t) : t.pc = s.pc + imm ∨ t.pc = s.pc + 4 := by
  rw [exec_next_pc h, pcMux_bind, if_pos hk, hi]
  exact ite_eq_or_eq _ _ _

/-- An immediate with bit 0 clear is even as a number (R66, R67). -/
theorem toNat_mod_two_of_isEven {imm : Word} (h : isEven imm = true) : imm.toNat % 2 = 0 := by
  simpa [BitVec.getLsbD, Nat.testBit_zero] using isEven_bit h

/-! ## The kinds with no effect but the next pc (R112, R184) -/

/-- A step of kind Branch, System or Unsupported does nothing but end. -/
theorem commit_eq_retire {d : Decoded} (hk : d.kind ∈ [Kind.branch, .system, .unsupported]) (s : State) :
    commit d s = s.retire d.nextPc := by
  have hw : writesRegister d.kind = false := by revert hk; cases d.kind <;> decide
  have hc : readsCsr d.kind = false := by revert hk; cases d.kind <;> decide
  have hs : d.kind ≠ .store := by intro e; simp [e] at hk
  have hcw : d.kind ≠ .csrWrite := by intro e; simp [e] at hk
  simp only [commit, writeBack, hw, readCsr_other hc, storePhase_other hs, csrWritePhase_other hcw]

/-- What a completed instruction of such a kind leaves unchanged. -/
theorem exec_frame_of_noEffectKind {i : Instr} {s t : State}
    (hk : (recordOf i).kind ∈ [Kind.branch, .system, .unsupported]) (h : exec i s = .next t) :
    (∀ q, t.getReg q = s.getReg q) ∧ (∀ a, t.mem.readByte a = s.mem.readByte a) ∧ t.params = s.params ∧
      t.csr = s.csr.instructionExecuted.getMessage.2 := by
  rw [exec_eq_next_commit h, commit_eq_retire (d := executed (recordOf i) s) hk]
  exact ⟨fun _ => rfl, fun _ => rfl, rfl, rfl⟩

/-- The CSR write completes, and changes nothing but the collaborator before the step ends (R231). -/
theorem exec_csrrwRd0 (rs1 : RegId) (c : CsrIndex) (s : State) :
    exec (.csrrwRd0 rs1 c) s =
      .next (State.retire { s with csr := (s.csr.read c).2.write c (s.getReg rs1) } (s.pc + 4)) := by
  rw [exec_eq_runRecord, recordOf, runRecord_csrWrite]

/-! ## The obligations of 42_control.md -/

/-- Settles O22: the rows fix the opcode alone, and each instruction is the record of its handler. -/
theorem jumpResults : Obligations.JumpResults := by
  unfold Obligations.JumpResults
  refine ⟨fun rd imm => ?_, fun rd rs1 imm => ?_, fun w h => decodeWord_jal ((mask_7F w _ (by decide)).1 h), exec_jal,
    fun w h => decodeWord_jalr ((mask_7F w _ (by decide)).1 h), exec_jalr⟩
  · refine ⟨?_, ?_, normalize_rd rfl, ?_, ?_, ?_, ?_⟩ <;> simp [recordOf, jalRecord, blankRecord]
  · refine ⟨?_, ?_, normalize_rd rfl, ?_, ?_, ?_, ?_⟩ <;> simp [recordOf, jalrRecord, blankRecord]

/-- Settles O23: a row fixes opcode and funct3, and each instruction is the branch record of its condition. -/
theorem branchResults : Obligations.BranchResults := by
  unfold Obligations.BranchResults
  refine ⟨fun w h => ?_, fun rs1 rs2 imm s => exec_branch rfl (by decide) (evalCond_eq_iff _ _),
    fun w h => ?_, fun rs1 rs2 imm s => exec_branch rfl (by decide) (evalCond_ne_iff _ _),
    fun w h => ?_, fun rs1 rs2 imm s => exec_branch rfl (by decide) (evalCond_lt_iff _ _),
    fun w h => ?_, fun rs1 rs2 imm s => exec_branch rfl (by decide) (evalCond_ge_iff _ _),
    fun w h => ?_, fun rs1 rs2 imm s => exec_branch rfl (by decide) (evalCond_ltu_iff _ _),
    fun w h => ?_, fun rs1 rs2 imm s => exec_branch rfl (by decide) (evalCond_geu_iff _ _)⟩
  all_goals simp [decodeWord_branchRow (by decide) (by decide) h, decodeBranch]

/-- Settles O24: the row's two function codes fall through the conditions of the decoder, and the record is a no-op. -/
theorem unassignedBranchIsNotTaken : Obligations.UnassignedBranchIsNotTaken := by
  unfold Obligations.UnassignedBranchIsNotTaken
  refine ⟨fun w h => ?_, fun rs1 rs2 imm s hr => ?_⟩
  · obtain ⟨hop, hf⟩ := (mask_607F w _ (by decide)).1 h
    rw [decodeWord_branch hop]
    rcases funct3_eq_two_or_three hf with hf | hf <;> simp [decodeBranch, hf]
  · rw [exec_eq_runRecord]
    exact runRecord_noOp hr (by simp [recordOf, branchRecord, isNoOp])

/-- Settles O37: the instructions of the list are of the kinds with no effect, and the CSR write changes the collaborator
alone. -/
theorem noRegisterFrame : Obligations.NoRegisterFrame := by
  unfold Obligations.NoRegisterFrame
  refine fun rd rs1 rs2 imm csr s t => ⟨fun i hi => exec_frame_of_noEffectKind ?_, fun h => ?_⟩
  · revert i
    simp [recordOf, branchRecord, loadRecord, storeRecord, systemRecord, noFieldRecord, blankRecord]
  · cases h.symm.trans (exec_csrrwRd0 rs1 csr s)
    exact ⟨fun _ => rfl, fun _ => rfl, rfl⟩

/-- Settles O48: the next pc is the one the multiplexer selects. -/
theorem onlyControlTransfersJump : Obligations.OnlyControlTransfersJump := by
  unfold Obligations.OnlyControlTransfersJump
  exact fun i s t h => (exec_next_pc h).trans (pcMux_bind _ s)

/-- Settles O49: an even pc moves by an even offset or by 4; JAL and JALR complete for every target; and the fetch, not the
jump, checks alignment. -/
theorem misalignedTargetFaultsAtTheNextFetch : Obligations.MisalignedTargetFaultsAtTheNextFetch := by
  unfold Obligations.MisalignedTargetFaultsAtTheNextFetch
  refine ⟨fun i rd rs1 rs2 imm hwf hi => ?_, fun rd rs1 imm s i hi => ?_,
    fun i s t _ _ ha => step_of_fetchWord_error (fetchWord_of_misaligned ha)⟩
  · obtain ⟨hk, himm, heven⟩ : ((recordOf i).kind = .branch ∨ (recordOf i).kind = .jump) ∧
        (recordOf i).imm = some imm ∧ isEven imm = true := by
      revert hwf
      revert i
      simp +contextual [recordOf, branchRecord, jalRecord, Instr.wf]
    have hoff := toNat_mod_two_of_isEven heven
    refine ⟨hoff, fun s t h hs => ?_⟩
    rcases exec_next_pc_of_pcRelative hk himm h with ht | ht <;> rw [ht] <;> bv_omega
  · have hlink (v n : Word) : rd ≠ 0#5 → ((s.setReg rd v).retire n).getReg rd = v := fun h => s.getReg_setReg_same h v
    simp only [List.mem_cons, List.not_mem_nil, or_false] at hi
    rcases hi with rfl | rfl
    · exact ⟨_, exec_jal rd imm s, hlink _ _⟩
    · exact ⟨_, exec_jalr rd rs1 imm s, hlink _ _⟩

/-- Settles O15: each condition is the test its row of the table names. -/
theorem branchConditions : Obligations.BranchConditions := by
  unfold Obligations.BranchConditions
  exact fun a b => ⟨evalCond_eq_iff a b, evalCond_ne_iff a b, evalCond_lt_iff a b, evalCond_ge_iff a b,
    evalCond_ltu_iff a b, evalCond_geu_iff a b, rfl, rfl⟩

end Sys2Proof.Machine
end

section
/-! PROOFS. Loads and stores (43_loadstore.md): the rows of LOAD and STORE, the state after each of their instructions, and
what LW, SW and the CSR read leave unchanged. -/

namespace Sys2Proof.Machine

/-! ## The rows of LOAD and STORE (R78) -/

section Rows

variable {w p : Word}

/-- A word of a LOAD row is decoded by the row's funct3. -/
theorem decodeWord_loadRow (hp : p &&& 0x0000707F#32 = p) (ho : opcodeOf p = 0x03#7) (h : w &&& 0x0000707F#32 = p) :
    decodeWord w = decodeLoad w ∧ funct3Of w = funct3Of p := by
  obtain ⟨hop, hf⟩ := (mask_707F w p hp).1 h
  exact ⟨decodeWord_load (hop.trans ho), hf⟩

/-- A word of a STORE row that fixes opcode and funct3 is decoded by the row's funct3. -/
theorem decodeWord_storeRow (hp : p &&& 0x0000707F#32 = p) (ho : opcodeOf p = 0x23#7) (h : w &&& 0x0000707F#32 = p) :
    decodeWord w = decodeStore w ∧ funct3Of w = funct3Of p := by
  obtain ⟨hop, hf⟩ := (mask_707F w p hp).1 h
  exact ⟨decodeWord_store (hop.trans ho), hf⟩

end Rows

/-- A function code with high bit 1 is none of the four that the STORE decoder names (R213). -/
theorem funct3_ne_of_high_bit {f : Funct3} (h : f.extractLsb' 2 1 = 1#1) : f ≠ 0#3 ∧ f ≠ 1#3 ∧ f ≠ 2#3 ∧ f ≠ 3#3 := by
  decide +revert

/-! ## The instructions by their records -/

section Exec

variable {i : Instr} {rd rs1 rs2 : RegId} {imm : Word} {s : State}

/-- LW completes where its data access has no fault (R211). -/
theorem exec_lw_of_no_dataFault (h : dataFault s.params (s.getReg rs1 + imm) = none) :
    exec (.lw rd rs1 imm) s = .next ((s.setReg rd (s.mem.readWord (s.getReg rs1 + imm))).retire (s.pc + 4)) := by
  rw [exec_eq_runRecord, recordOf, runRecord_load, h]

/-- SW completes where its data access has no fault (R214). -/
theorem exec_sw_of_no_dataFault (h : dataFault s.params (s.getReg rs1 + imm) = none) :
    exec (.sw rs1 rs2 imm) s =
      .next (State.retire { s with mem := s.mem.writeWord (s.getReg rs1 + imm) (s.getReg rs2) } (s.pc + 4)) := by
  rw [exec_eq_runRecord, recordOf, runRecord_store, h]

/-- A record of kind Unsupported is a no-op, whatever its other fields hold (R212, R215). -/
theorem exec_of_unsupported (hk : (recordOf i).kind = .unsupported) (hr : s.params.refuseUnsupported = false) :
    exec i s = .next (s.retire (s.pc + 4)) := by
  rw [exec_eq_runRecord]
  exact runRecord_noOp hr ((isNoOp_iff _).2 (.inl hk))

/-- A load of another width than a word only advances the pc, though its record has a destination (R212). -/
theorem exec_unsupportedLoad (hr : s.params.refuseUnsupported = false)
    (hi : recordOf i = loadRecord .unsupported rd rs1 imm) : exec i s = .next (s.retire (s.pc + 4)) :=
  exec_of_unsupported (by rw [hi, loadRecord, normalize_kind]) hr

/-- A store of another width than a word only advances the pc (R215). -/
theorem exec_unsupportedStore (hr : s.params.refuseUnsupported = false)
    (hi : recordOf i = storeRecord .unsupported rs1 rs2 imm) : exec i s = .next (s.retire (s.pc + 4)) :=
  exec_of_unsupported (by rw [hi, storeRecord, normalize_kind]) hr

end Exec

/-- The CSR read completes: the collaborator's answer goes to `rd` (R232). -/
theorem exec_csrrsRs10 (rd : RegId) (c : CsrIndex) (s : State) :
    exec (.csrrsRs10 rd c) s =
      .next ((State.setReg { s with csr := (s.csr.read c).2 } rd (s.csr.read c).1).retire (s.pc + 4)) := by
  rw [exec_eq_runRecord, recordOf, runRecord_csrRead]

/-! ## What a step leaves unchanged -/

/-- A step that at most writes `rd` and leaves the collaborator as `f` before it ends: nothing else is touched
(R25, R112, R116). -/
theorem setReg_retire_frame (s : State) (f : CsrFile) (rd : RegId) (v n : Word) {t : State}
    (ht : t = (State.setReg { s with csr := f } rd v).retire n) :
    (∀ q, q ≠ rd → t.getReg q = s.getReg q) ∧ t.getReg 0#5 = 0 ∧
      (∀ a, t.mem.readByte a = s.mem.readByte a) ∧ t.params = s.params ∧ t.pc = n ∧
      t.csr = f.instructionExecuted.getMessage.2 := by
  subst ht
  exact ⟨fun q hq => State.getReg_setReg_ne _ hq v, rfl, by simp, by simp, rfl, by simp⟩

/-- The data address of SW is the ALU's sum of source 1 and the immediate (R109, R213). -/
theorem executed_addr_sw (rs1 rs2 : RegId) (imm : Word) (s : State) :
    (executed (recordOf (.sw rs1 rs2 imm)) s).addr = some (s.getReg rs1 + imm) := by
  have hk : (recordOf (.sw rs1 rs2 imm)).kind = .store := normalize_kind _
  have hop : (recordOf (.sw rs1 rs2 imm)).aluOp = .add := normalize_aluOp _
  rw [executed_addr, hk, aluOut_bind_imm s (normalize_rs1 _) (normalize_imm _), hop, alu_add]
  rfl

/-! ## The obligations of 43_loadstore.md -/

/-- Settles O25: an allowed, mapped address has no fault, and LW then loads the word there. -/
theorem loadWordResult : Obligations.LoadWordResult := by
  unfold Obligations.LoadWordResult
  refine ⟨fun w h => ?_, fun rd rs1 imm s ha hm => exec_lw_of_no_dataFault (dataFault_eq_none ha hm)⟩
  simp [decodeWord_loadRow (by decide) (by decide) h, decodeLoad]

/-- Settles O26: an allowed, mapped address has no fault, and SW then stores the word there. -/
theorem storeWordResult : Obligations.StoreWordResult := by
  unfold Obligations.StoreWordResult
  refine ⟨fun w h => ?_, fun rs1 rs2 imm s ha hm => exec_sw_of_no_dataFault (dataFault_eq_none ha hm)⟩
  simp [decodeWord_storeRow (by decide) (by decide) h, decodeStore]

/-- Settles O29: a row fixes opcode and funct3, and each instruction is a LOAD record of kind Unsupported. -/
theorem unsupportedLoadsHaveNoEffect : Obligations.UnsupportedLoadsHaveNoEffect := by
  unfold Obligations.UnsupportedLoadsHaveNoEffect
  refine ⟨fun w h => ?_, fun w h => ?_, fun w h => ?_, fun w h => ?_, fun w h => ?_, fun w h => ?_, fun w h => ?_,
    fun rd rs1 imm s hr => ?noEffect⟩
  case noEffect =>
    have hload {i : Instr} := exec_unsupportedLoad (i := i) (rd := rd) (rs1 := rs1) (imm := imm) hr
    exact ⟨hload rfl, hload rfl, hload rfl, hload rfl, hload rfl, hload rfl, hload rfl⟩
  all_goals simp [decodeWord_loadRow (by decide) (by decide) h, decodeLoad]

/-- Settles O30: the last row fixes the high bit of funct3 alone, which rules out the four named codes; each instruction is a
STORE record of kind Unsupported. -/
theorem unsupportedStoresHaveNoEffect : Obligations.UnsupportedStoresHaveNoEffect := by
  unfold Obligations.UnsupportedStoresHaveNoEffect
  refine ⟨fun w h => ?_, fun w h => ?_, fun w h => ?_, fun w h => ?highBit, fun rs1 rs2 imm s hr => ?noEffect⟩
  case noEffect =>
    have hstore {i : Instr} := exec_unsupportedStore (i := i) (rs1 := rs1) (rs2 := rs2) (imm := imm) hr
    exact ⟨hstore rfl, hstore rfl, hstore rfl, hstore rfl⟩
  case highBit =>
    obtain ⟨hop, hf⟩ := (mask_407F w _ (by decide)).1 h
    simp [decodeWord_store hop, decodeStore, funct3_ne_of_high_bit hf]
  all_goals simp [decodeWord_storeRow (by decide) (by decide) h, decodeStore]

/-- Settles O36: both write `rd` at most; the CSR read first leaves the collaborator as its answer does. -/
theorem loadAndCsrReadFrame : Obligations.LoadAndCsrReadFrame := by
  unfold Obligations.LoadAndCsrReadFrame
  refine fun rd rs1 imm c s t => ⟨fun h => setReg_retire_frame s s.csr rd _ _ (exec_lw_eq_next h), fun h => ?_⟩
  cases h.symm.trans (exec_csrrsRs10 rd c s)
  exact setReg_retire_frame s (s.csr.read c).2 rd _ _ rfl

/-- Settles O38: a completed SW is a word write at its data address, and the end of the step. -/
theorem storeFrame : Obligations.StoreFrame := by
  unfold Obligations.StoreFrame
  intro rs1 rs2 imm s t h
  have haddr := executed_addr_sw rs1 rs2 imm s
  rw [exec_sw_eq_next h]
  refine ⟨haddr, fun a ha b hb hb1 hb2 hb3 => ?_, fun _ => rfl, rfl, rfl, rfl⟩
  cases haddr.symm.trans ha
  exact s.mem.readByte_writeWord_outside _ _ b ⟨hb, hb1, hb2, hb3⟩

end Sys2Proof.Machine
end

section
/-! PROOFS. SYSTEM, MISC-MEM, AMO and the default handler (44_system.md): the rows of SYSTEM, the two CSR patterns, the words
that only advance the pc, and a run of any length through zero-filled memory. -/

namespace Sys2Proof.Machine

/-! ## The rows of SYSTEM (R79) -/

/-- A word of a SYSTEM row that fixes opcode and funct3 is decoded by the row's funct3. -/
theorem decodeWord_systemRow {w p : Word} (hp : p &&& 0x0000707F#32 = p) (ho : opcodeOf p = 0x73#7)
    (h : w &&& 0x0000707F#32 = p) : decodeWord w = decodeSystem w ∧ funct3Of w = funct3Of p := by
  obtain ⟨hop, hf⟩ := (mask_707F w p hp).1 h
  exact ⟨decodeWord_system (hop.trans ho), hf⟩

/-- The row of the CSR write fixes opcode, funct3 and rd (R231). -/
theorem decodeWord_csrWriteRow {w : Word} (h : w &&& 0x00007FFF#32 = 0x00001073#32) :
    decodeWord w = .csrrwRd0 (rs1Of w) (csrOf w) := by
  obtain ⟨hop, hf, hrd⟩ := (mask_7FFF w _ (by decide)).1 h
  rw [decodeWord_system hop, decodeSystem, if_pos ⟨hf, hrd⟩]

/-- The row of the CSR read fixes opcode, funct3 and rs1 (R232); its funct3 rules out the CSR write. -/
theorem decodeWord_csrReadRow {w : Word} (h : w &&& 0x000FF07F#32 = 0x00002073#32) :
    decodeWord w = .csrrsRs10 (rdOf w) (csrOf w) := by
  obtain ⟨hop, hf, hrs1⟩ := (mask_FF07F w _ (by decide)).1 h
  have hf1 : funct3Of w ≠ 1#3 := by rw [hf]; decide
  rw [decodeWord_system hop, decodeSystem, if_neg fun hw => hf1 hw.1, if_pos ⟨hf, hrs1⟩]

/-! ## The words that only advance the pc (R233 to R236) -/

/-- A record of kind System is a no-op, whatever its register and CSR fields hold (R233). -/
theorem exec_of_system {i : Instr} {rd rs1 : RegId} {csr : CsrIndex} {s : State}
    (hr : s.params.refuseUnsupported = false) (hi : recordOf i = systemRecord .system rd rs1 csr) :
    exec i s = .next (s.retire (s.pc + 4)) := by
  have hk : (systemRecord .system rd rs1 csr).kind = .system := normalize_kind _
  rw [exec_eq_runRecord, hi]
  exact runRecord_noOp hr ((isNoOp_iff _).2 (.inr (.inl hk)))

/-- The record with no field set is a no-op (R234 to R236). -/
theorem exec_of_noField {i : Instr} {s : State} (hr : s.params.refuseUnsupported = false)
    (hi : recordOf i = noFieldRecord) : exec i s = .next (s.retire (s.pc + 4)) :=
  exec_of_unsupported (by rw [hi, noFieldRecord, normalize_kind, blankRecord]) hr

/-! ## A run through zero-filled memory (R236, R288) -/

/-- A property of the number of steps and the state that holds at the start, and that every state with it keeps by completing
a step, is met after every number of steps. -/
theorem exists_reaches_of_invariant {P : Nat → State → Prop}
    (hstep : ∀ k t, P k t → ∃ u, step t = .next u ∧ P (k + 1) u) {s : State} (h : P 0 s) (k : Nat) :
    ∃ t, Reaches s k t ∧ P k t := by
  induction k generalizing s P with
  | zero => exact ⟨s, rfl, h⟩
  | succ k ih =>
    obtain ⟨u, hu, hPu⟩ := hstep 0 s h
    obtain ⟨t, ht, hPt⟩ := ih (P := fun j => P (j + 1)) (fun j => hstep (j + 1)) hPu
    exact ⟨t, ht.cons hu, hPt⟩

/-- A word of four zero bytes is 0 (R43). -/
theorem Memory.readWord_of_zero {m : Memory} (h : ∀ a, m.readByte a = 0) (a : Word) : m.readWord a = 0#32 := by
  simp only [Memory.readWord, h]
  decide

/-- Every word is in a map that has every address (R49). -/
theorem wordInMap_of_inMap {m : List Region} (h : ∀ a, inMap m a = true) (a : Word) : wordInMap m a = true := by
  simp only [wordInMap, h, Bool.and_self]

/-- The fetched word 0 is unrecognized, and only advances the pc (R236). -/
theorem step_of_zeroWord {s : State} (ha : s.pc.toNat % 4 = 0) (hm : wordInMap s.params.memMap s.pc = true)
    (hw : s.mem.readWord s.pc = 0#32) (hr : s.params.refuseUnsupported = false) :
    step s = .next (s.retire (s.pc + 4)) := by
  rw [step_of_fetchWord_ok (fetchWord_eq_ok ha hm), hw, decodeWord_default (by decide)]
  exact exec_of_noField hr rfl

/-- `t` is `s` with the pc `k` instructions further on, but for the collaborator and the message. -/
structure AdvancedBy (s : State) (k : Nat) (t : State) : Prop where
  pc : t.pc = s.pc + BitVec.ofNat 32 (4 * k)
  regs : t.regs = s.regs
  mem : t.mem = s.mem
  params : t.params = s.params

theorem AdvancedBy.refl (s : State) : AdvancedBy s 0 s := ⟨(BitVec.add_zero _).symm, rfl, rfl, rfl⟩

/-- The end of a step at the next instruction is one instruction further on, modulo 2^32 (R23). -/
theorem AdvancedBy.retire {s t : State} {k : Nat} (h : AdvancedBy s k t) :
    AdvancedBy s (k + 1) (t.retire (t.pc + 4)) := by
  refine ⟨?_, h.regs, h.mem, h.params⟩
  rw [State.retire_pc, h.pc, Nat.mul_add, BitVec.ofNat_add, BitVec.add_assoc]
  rfl

/-- A pc that is a multiple of 4 stays one, as 2^32 is one. -/
theorem AdvancedBy.aligned {s t : State} {k : Nat} (h : AdvancedBy s k t) (ha : s.pc.toNat % 4 = 0) :
    t.pc.toNat % 4 = 0 := by
  rw [h.pc, BitVec.toNat_add, BitVec.toNat_ofNat]
  omega

/-! ## The obligations of 44_system.md -/

/-- Settles O60: a state further on in zero-filled memory still has the memory, the parameters and an aligned pc, so its step
runs the word 0 and completes at the next instruction. -/
theorem zeroMemoryIsRunThrough : Obligations.ZeroMemoryIsRunThrough := by
  unfold Obligations.ZeroMemoryIsRunThrough
  intro s hzero hmap hr ha k
  have hstep (j : Nat) (t : State) (h : AdvancedBy s j t) : ∃ u, step t = .next u ∧ AdvancedBy s (j + 1) u := by
    refine ⟨_, step_of_zeroWord (h.aligned ha) ?mapped ?zero ?allowed, h.retire⟩
    case mapped => rw [h.params]; exact wordInMap_of_inMap hmap _
    case zero => rw [h.mem]; exact Memory.readWord_of_zero hzero _
    case allowed => rw [h.params, hr]
  obtain ⟨t, hreach, hpc, hregs, hmem, hparams⟩ := exists_reaches_of_invariant hstep (AdvancedBy.refl s) k
  exact ⟨t, hreach, hpc, hregs, hmem, hparams⟩

/-- Settles O28: each pattern's row is the decoder's test for it, and the plain collaborator is storage, which the
notification and the message leave as it is. -/
theorem csrPatternResults : Obligations.CsrPatternResults := by
  unfold Obligations.CsrPatternResults
  refine ⟨fun w => decodeWord_csrWriteRow, exec_csrrwRd0, fun w => decodeWord_csrReadRow, exec_csrrsRs10,
    fun rs1 c b s t cells n hs h => ?plain⟩
  case plain =>
    cases h.symm.trans (exec_csrrwRd0 rs1 c s)
    rw [hs]
    exact CsrFile.read_write_plain cells n c b (s.getReg rs1)

/-- Settles O31: the five are literal words, and each instruction is a SYSTEM record of kind System. -/
theorem namedSystemWordsHaveNoEffect : Obligations.NamedSystemWordsHaveNoEffect := by
  unfold Obligations.NamedSystemWordsHaveNoEffect
  exact ⟨by decide, by decide, by decide, by decide, by decide, fun s hr =>
    ⟨exec_of_system hr rfl, exec_of_system hr rfl, exec_of_system hr rfl, exec_of_system hr rfl, exec_of_system hr rfl⟩⟩

/-- Settles O32: a row's funct3 is not that of the five named words, CSRRW and CSRRS fail their CSR pattern by the register,
and funct3 000 is tested against the five; each instruction is a SYSTEM record of kind System. -/
theorem otherSystemWordsHaveNoEffect : Obligations.OtherSystemWordsHaveNoEffect := by
  unfold Obligations.OtherSystemWordsHaveNoEffect
  refine ⟨fun w h hrd => ?csrrw, fun w h hrs1 => ?csrrs, fun w h => ?csrrc, fun w h => ?csrrwi, fun w h => ?csrrsi,
    fun w h => ?csrrci, fun w hop hf => ?funct4, fun w hop hf hn => ?funct0, fun rd rs1 csr s hr => ?noEffect⟩
  case csrrw => simp [decodeWord_systemRow (by decide) (by decide) h, decodeSystem, ne_namedSystemWord, hrd]
  case csrrs => simp [decodeWord_systemRow (by decide) (by decide) h, decodeSystem, ne_namedSystemWord, hrs1]
  case csrrc | csrrwi | csrrsi | csrrci =>
    simp [decodeWord_systemRow (by decide) (by decide) h, decodeSystem, ne_namedSystemWord]
  case funct4 => simp [decodeWord_system hop, decodeSystem, ne_namedSystemWord, hf]
  case funct0 =>
    simp only [List.mem_cons, List.not_mem_nil, or_false, not_or] at hn
    simp [decodeWord_system hop, decodeSystem, hf, hn]
  case noEffect =>
    have hsystem {i : Instr} := exec_of_system (i := i) (rd := rd) (rs1 := rs1) (csr := csr) hr
    exact ⟨hsystem rfl, hsystem rfl, hsystem rfl, hsystem rfl, hsystem rfl, hsystem rfl, hsystem rfl⟩

/-- Settles O33: the rows fix the opcode alone, and each instruction's record has no field set. -/
theorem fenceAtomicAndDefaultHaveNoEffect : Obligations.FenceAtomicAndDefaultHaveNoEffect := by
  unfold Obligations.FenceAtomicAndDefaultHaveNoEffect
  exact ⟨fun w h => decodeWord_miscMem ((mask_7F w _ (by decide)).1 h),
    fun w h => decodeWord_amo ((mask_7F w _ (by decide)).1 h), fun s hr =>
      ⟨exec_of_noField hr rfl, exec_of_noField hr rfl, exec_of_noField hr rfl⟩⟩

end Sys2Proof.Machine
end

section
/-! PROOFS. Faults (60_exceptions.md): what a fault of a fetch, of an instruction and of a step says of its cause. -/

namespace Sys2Proof.Machine

/-! ## The causes of a fault (R260, R262) -/

/-- Everything a fault of the fetch says (R44, R49, R263). -/
theorem fetchWord_eq_error {s : State} {f : Fault} (h : fetchWord s = .error f) :
    (s.pc.toNat % 4 ≠ 0 ∧ f = .fetchMisaligned s.pc) ∨
      (wordInMap s.params.memMap s.pc = false ∧ f = .accessFault s.pc) := by
  by_cases ha : s.pc.toNat % 4 = 0
  · cases hm : wordInMap s.params.memMap s.pc with
    | true => cases h.symm.trans (fetchWord_eq_ok ha hm)
    | false => cases h.symm.trans (fetchWord_of_unmapped ha hm); exact .inr ⟨rfl, rfl⟩
  · cases h.symm.trans (fetchWord_of_misaligned ha)
    exact .inl ⟨ha, rfl⟩

/-- A fault of LW is that of its data access, as LW completes where there is none. -/
theorem dataFault_of_exec_lw_fault {rd rs1 : RegId} {imm : Word} {s : State} {f : Fault}
    (h : exec (.lw rd rs1 imm) s = .fault f) : dataFault s.params (s.getReg rs1 + imm) = some f := by
  cases hd : dataFault s.params (s.getReg rs1 + imm) with
  | none => cases h.symm.trans (exec_lw_of_no_dataFault hd)
  | some g => cases h.symm.trans (exec_lw_of_dataFault hd); rfl

/-- A fault of SW is that of its data access, as SW completes where there is none. -/
theorem dataFault_of_exec_sw_fault {rs1 rs2 : RegId} {imm : Word} {s : State} {f : Fault}
    (h : exec (.sw rs1 rs2 imm) s = .fault f) : dataFault s.params (s.getReg rs1 + imm) = some f := by
  cases hd : dataFault s.params (s.getReg rs1 + imm) with
  | none => cases h.symm.trans (exec_sw_of_no_dataFault hd)
  | some g => cases h.symm.trans (exec_sw_of_dataFault hd); rfl

/-- An instruction that faults has a record that accesses memory (R109). -/
theorem accessesMemory_of_exec_fault {i : Instr} {s : State} {f : Fault} (h : exec i s = .fault f) :
    accessesMemory (recordOf i).kind = true := by
  rw [exec_eq_runRecord] at h
  obtain ⟨-, hf⟩ := runRecord_eq_fault.1 h
  by_contra hk
  cases hf.symm.trans (recordFault_none (Bool.eq_false_iff.2 hk))

/-- Everything a faulting instruction says: it is LW or SW, and its data access has the fault (R262). -/
theorem exec_eq_fault {i : Instr} {s : State} {f : Fault} (h : exec i s = .fault f) :
    ∃ r rs1 imm, (i = .lw r rs1 imm ∨ i = .sw rs1 r imm) ∧ dataFault s.params (s.getReg rs1 + imm) = some f := by
  obtain ⟨r, rs1, imm, rfl | rfl⟩ := accessesMemory_recordOf (accessesMemory_of_exec_fault h)
  · exact ⟨r, rs1, imm, .inl rfl, dataFault_of_exec_lw_fault h⟩
  · exact ⟨r, rs1, imm, .inr rfl, dataFault_of_exec_sw_fault h⟩

/-- Everything a faulting step says: the fetch has the fault, or the fetched word's instruction has it. -/
theorem step_eq_fault {s : State} {f : Fault} (h : step s = .fault f) :
    fetchWord s = .error f ∨ exec (decodeWord (s.mem.readWord s.pc)) s = .fault f := by
  cases hw : fetchWord s with
  | error e => cases h.symm.trans (step_of_fetchWord_error hw); exact .inl rfl
  | ok w =>
    obtain ⟨-, -, rfl⟩ := fetchWord_ok hw
    exact .inr ((step_of_fetchWord_ok hw).symm.trans h)

/-! ## The obligation of 60_exceptions.md -/

/-- Settles O45: a step faults by its fetch or by its instruction, which is then LW or SW with a faulting data access. -/
theorem stepFaultsOnlyByTheThreeCauses : Obligations.StepFaultsOnlyByTheThreeCauses := by
  unfold Obligations.StepFaultsOnlyByTheThreeCauses
  intro s f h
  rcases step_eq_fault h with hfetch | hexec
  · rcases fetchWord_eq_error hfetch with hmisaligned | hunmapped
    · exact .inl hmisaligned
    · exact .inr (.inl hunmapped)
  · obtain ⟨r, rs1, imm, hi, hdata⟩ := exec_eq_fault hexec
    exact .inr (.inr ⟨r, rs1, imm, hi, dataFault_eq_some hdata⟩)

end Sys2Proof.Machine
end

section
/-! PROOFS. Reset and hazards (70_reset_and_hazards.md): what reset keeps, the word the host places at the pc, that no word
stops the block by itself, and the jump to itself. -/

namespace Sys2Proof.Machine

/-! ## No refusal where the parameter is false (R120, R287) -/

/-- Where `refuseUnsupported` is false, no instruction is refused (R120). -/
theorem exec_ne_refused {s : State} (hr : s.params.refuseUnsupported = false) (i : Instr) (r : Refusal) :
    exec i s ≠ .refused r := by
  rw [exec_eq_runRecord]
  intro h
  obtain ⟨hn, -⟩ := runRecord_eq_refused.1 h
  rw [hr] at hn
  cases hn

/-- Where `refuseUnsupported` is false, no step is refused: its fetch faults, or it runs an instruction. -/
theorem step_ne_refused {s : State} (hr : s.params.refuseUnsupported = false) (r : Refusal) : step s ≠ .refused r := by
  cases hw : fetchWord s with
  | error f => rw [step_of_fetchWord_error hw]; nofun
  | ok w => rw [step_of_fetchWord_ok hw]; exact exec_ne_refused hr _ r

/-! ## The word the host places at the pc (R282) -/

/-- The word at the pc after a load of 32 bits is the one loaded. -/
theorem State.readWord_withFetchWord (s : State) (w : Nat) :
    (s.withFetchWord 32 w).mem.readWord s.pc = BitVec.ofNat 32 w := by
  rw [State.withFetchWord_mem, Memory.readWord_writeWord_same, ← BitVec.toNat_ofNat, BitVec.ofNat_toNat,
    BitVec.setWidth_eq]

/-! ## The jump to itself (R182, R288) -/

/-- The fetched word `JAL x0, 0` ends the step at the same pc and does nothing else: the link goes to x0 (R182). -/
theorem step_of_jumpToItself {s : State} (ha : s.pc.toNat % 4 = 0) (hm : wordInMap s.params.memMap s.pc = true)
    (hw : s.mem.readWord s.pc = 0x0000006F#32) : step s = .next (s.retire s.pc) := by
  have hdec : decodeWord 0x0000006F#32 = .jal 0#5 0#32 := by decide
  rw [step_of_fetchWord_ok (fetchWord_eq_ok ha hm), hw, hdec, exec_jal, State.setReg_zero, BitVec.add_zero]

/-- `t` is `s` but for the collaborator and the message. -/
structure SameButCollaborator (s t : State) : Prop where
  pc : t.pc = s.pc
  regs : t.regs = s.regs
  mem : t.mem = s.mem
  params : t.params = s.params

/-- A jump to itself keeps everything but the collaborator and the message, and can be fetched again. -/
theorem SameButCollaborator.exists_step {s t : State} (h : SameButCollaborator s t) (ha : s.pc.toNat % 4 = 0)
    (hm : wordInMap s.params.memMap s.pc = true) (hw : s.mem.readWord s.pc = 0x0000006F#32) :
    ∃ u, step t = .next u ∧ SameButCollaborator s u := by
  obtain ⟨hpc, hregs, hmem, hparams⟩ := h
  rw [← hpc] at ha
  rw [← hpc, ← hparams] at hm
  rw [← hpc, ← hmem] at hw
  exact ⟨_, step_of_jumpToItself ha hm hw, hpc, hregs, hmem, hparams⟩

/-! ## The obligations of 70_reset_and_hazards.md -/

/-- Settles O46: nothing is refused, and where the fetch succeeds a fault is that of an LW or SW. -/
theorem everyWordExecutes : Obligations.EveryWordExecutes := by
  unfold Obligations.EveryWordExecutes
  refine fun s hr => ⟨step_ne_refused hr, fun ha hm => ?_⟩
  cases hstep : step s with
  | next t => exact .inl ⟨t, rfl⟩
  | fault f =>
    rw [step_of_fetchWord_ok (fetchWord_eq_ok ha hm)] at hstep
    obtain ⟨r, rs1, imm, hi, hdata⟩ := exec_eq_fault hstep
    exact .inr ⟨r, rs1, imm, f, hi, hdata, rfl⟩
  | refused r => exact absurd hstep (step_ne_refused hr r)

/-- Settles O47: the fetch reads the word just placed, which is the only one the load changes. -/
theorem withFetchWordRunsTheWord : Obligations.WithFetchWordRunsTheWord := by
  unfold Obligations.WithFetchWordRunsTheWord
  refine fun s w ha hm => ⟨?_, fun b hb hb1 hb2 hb3 => s.mem.readByte_writeWord_outside _ _ b ⟨hb, hb1, hb2, hb3⟩⟩
  rw [step_of_fetchWord_ok (fetchWord_eq_ok (s := s.withFetchWord 32 w) ha hm), State.withFetchWord_pc,
    State.readWord_withFetchWord]

/-- Settles O59: every state the loop reaches has the pc, memory and parameters that make its step the same jump. -/
theorem jumpToItselfLoopsForever : Obligations.JumpToItselfLoopsForever := by
  unfold Obligations.JumpToItselfLoopsForever
  intro s ha hm hw k
  obtain ⟨t, hreach, hpc, hregs, hmem, hparams⟩ := exists_reaches_of_invariant
    (P := fun _ => SameButCollaborator s) (fun _ _ h => h.exists_step ha hm hw) ⟨rfl, rfl, rfl, rfl⟩ k
  exact ⟨t, hreach, hpc, hregs, hmem, hparams⟩

/-- Settles O57: reset writes the pc, the collaborator and the message alone. -/
theorem resetSetsPcAndCsrKeepsRegistersAndMemory : Obligations.ResetSetsPcAndCsrKeepsRegistersAndMemory := by
  unfold Obligations.ResetSetsPcAndCsrKeepsRegistersAndMemory
  exact fun s a => ⟨s.resetAt_pc a, s.resetAt_csr a, State.getReg_of_regs_eq (s.resetAt_regs a),
    fun _ => rfl⟩

end Sys2Proof.Machine
end
